-- ==== Sys2Proof/Word.lean ====
section
/-!
DEFINITION. The widths of the machine: a byte, a 16-bit address or pair, a 64-bit counter (R5, R6).
-/
namespace Sys2Proof

/-- A byte: a storage register, a memory cell, a port entry (R6). -/
abbrev Byte := BitVec 8

/-- A 16-bit value: PC, SP, a register pair, a program address (R6). -/
abbrev Word := BitVec 16

/-- A 64-bit counter (R27). -/
abbrev Count := BitVec 64

end Sys2Proof
end

