-- ==== Sys2Proof/Machine/Params.lean ====
section
/-!
DEFINITION. The three parameters the spec leaves open with a default: `SP_RESET` (R341), `INT_ACK_CLEARS_IE` (R311)
and `CYCLE_COST` (R351).
-/
namespace Sys2Proof.Machine

/-- `SP_RESET`, the reset value of SP. DESIGN CHOICE (unsafe, log entry 1): the spec leaves it OPEN and suggests 0x3FFF (R341). -/
def spReset : Word := 0x3FFF

/-- `INT_ACK_CLEARS_IE`: whether accepting an interrupt clears IE. DESIGN CHOICE (log entry 3): the spec's default, false (R311). -/
def intAckClearsIE : Bool := false

/-! The default `CYCLE_COST` table, row by row as R351 prints it (0 for an unassigned byte, which is never accounted).
DESIGN CHOICE (unsafe, log entry 2): only the entries 0x00, 0x01, 0x76, 0xC3, 0xD3 and 0xDB are the source's. -/

def cycleRow0 : List Nat := [4, 10, 7, 5, 5, 5, 7, 4, 0, 10, 7, 5, 5, 5, 7, 4]
def cycleRow1 : List Nat := [0, 10, 7, 5, 5, 5, 7, 4, 0, 10, 7, 5, 5, 5, 7, 4]
def cycleRow2 : List Nat := [0, 10, 16, 5, 5, 5, 7, 4, 0, 10, 16, 5, 5, 5, 7, 4]
def cycleRow3 : List Nat := [0, 10, 13, 5, 10, 10, 10, 4, 0, 10, 13, 5, 5, 5, 7, 4]
def cycleRow4 : List Nat := [5, 5, 5, 5, 5, 5, 7, 5, 5, 5, 5, 5, 5, 5, 7, 5]
def cycleRow5 : List Nat := [5, 5, 5, 5, 5, 5, 7, 5, 5, 5, 5, 5, 5, 5, 7, 5]
def cycleRow6 : List Nat := [5, 5, 5, 5, 5, 5, 7, 5, 5, 5, 5, 5, 5, 5, 7, 5]
def cycleRow7 : List Nat := [7, 7, 7, 7, 7, 7, 7, 7, 5, 5, 5, 5, 5, 5, 7, 5]
def cycleRow8 : List Nat := [4, 4, 4, 4, 4, 4, 7, 4, 4, 4, 4, 4, 4, 4, 7, 4]
def cycleRow9 : List Nat := [4, 4, 4, 4, 4, 4, 7, 4, 4, 4, 4, 4, 4, 4, 7, 4]
def cycleRowA : List Nat := [4, 4, 4, 4, 4, 4, 7, 4, 4, 4, 4, 4, 4, 4, 7, 4]
def cycleRowB : List Nat := [4, 4, 4, 4, 4, 4, 7, 4, 4, 4, 4, 4, 4, 4, 7, 4]
def cycleRowC : List Nat := [11, 10, 10, 10, 17, 11, 7, 11, 11, 10, 10, 0, 17, 17, 7, 11]
def cycleRowD : List Nat := [11, 10, 10, 10, 17, 11, 7, 11, 11, 0, 10, 10, 17, 0, 7, 11]
def cycleRowE : List Nat := [11, 10, 10, 18, 17, 11, 7, 11, 11, 5, 10, 4, 17, 0, 7, 11]
def cycleRowF : List Nat := [11, 10, 10, 4, 17, 11, 7, 11, 11, 5, 10, 4, 17, 0, 7, 11]

/-- The 256 entries in opcode order. -/
def cycleTable : List Nat :=
  cycleRow0 ++ cycleRow1 ++ cycleRow2 ++ cycleRow3 ++ cycleRow4 ++ cycleRow5 ++ cycleRow6 ++ cycleRow7 ++
  cycleRow8 ++ cycleRow9 ++ cycleRowA ++ cycleRowB ++ cycleRowC ++ cycleRowD ++ cycleRowE ++ cycleRowF

/-- `CYCLE_COST[opcode]`: the base cost, a function of the opcode byte alone (R350). -/
def cycleCost (op : Byte) : Count := BitVec.ofNat 64 (cycleTable.getD op.toNat 0)

end Sys2Proof.Machine
end

