-- ==== Sys2Proof/Machine/State.lean ====
section
/-!
DEFINITION. The state of one core (R10), as plain data, the reasons a step can stop, and the state after reset (R29).
-/
namespace Sys2Proof.Machine

/-- A sparse array of bytes: (index, byte) pairs, the indices strictly rising, no byte 0; an unlisted index reads 0,
the value R29 gives every cell and port entry at reset (log entry 6). -/
abbrev Cells := List Host.Cell

/-- `MEM`, by raw index 0..65535 (R40). -/
abbrev Memory := Cells

/-- One port bank, by port number 0..255 (R26). -/
abbrev Ports := Cells

/-- The five condition flags, each a single bit (R20). -/
structure Flags where
  /-- zero -/
  z : Bool
  /-- sign -/
  s : Bool
  /-- parity: even number of 1 bits -/
  p : Bool
  /-- carry, or borrow after a subtraction -/
  cy : Bool
  /-- auxiliary (half) carry, out of bit 3 -/
  ac : Bool
  deriving DecidableEq, Repr

/-- The complete state of one core (R10). -/
structure State where
  /-- A, the accumulator (R11) -/
  a : Byte
  b : Byte
  c : Byte
  d : Byte
  e : Byte
  h : Byte
  l : Byte
  /-- PC (R17) -/
  pc : Word
  /-- SP (R19) -/
  sp : Word
  /-- Z, S, P, CY, AC (R20) -/
  flags : Flags
  /-- IE, `interrupts_enabled` (R23) -/
  ie : Bool
  /-- HALTED (R24) -/
  halted : Bool
  /-- MEM (R40) -/
  mem : Memory
  /-- IN_PORT, written by the host, read by `IN` (R26) -/
  inPort : Ports
  /-- OUT_PORT, written by `OUT`, read by the host (R26) -/
  outPort : Ports
  /-- CYCLES (R27) -/
  cycles : Count
  /-- INSTRS (R27) -/
  instrs : Count
  deriving DecidableEq, Repr

/-- Why a step stops with a fault. -/
inductive Fault where
  /-- The one synchronous exception, `fatal(UnknownOpcode(opcode, pc0))` (R300): raised by decode of one of the twelve
  unassigned bytes, through the meaning of `unassigned`; no state changes (R301). Safe: the outcome the spec gives. -/
  | unknownOpcode (op : Byte) (pc : Word)
  deriving DecidableEq, Repr

/-- Why the model gives an instruction no meaning. -/
inductive Refusal where
  /-- An arm of `exec` with no meaning yet; no arm raises it now. Safe: the model stops. -/
  | notModelled (mnemonic : String)
  deriving DecidableEq, Repr

/-- What an instruction or a step answers. -/
abbrev Result := Host.Outcome State Fault Refusal

/-- The state after reset for a given `SP_RESET` (R29, R340): everything zero but SP. -/
def State.resetWith (sp : Word) : State :=
  { a := 0, b := 0, c := 0, d := 0, e := 0, h := 0, l := 0, pc := 0, sp := sp,
    flags := { z := false, s := false, p := false, cy := false, ac := false },
    ie := false, halted := false, mem := [], inPort := [], outPort := [], cycles := 0, instrs := 0 }

/-- The state after reset (R29), with the model's `SP_RESET` (log entry 1). -/
def State.reset : State := State.resetWith spReset

end Sys2Proof.Machine
end

