-- ==== Sys2Proof/Syntax.lean ====
section
/-!
DEFINITION. The instruction set as syntax: the operand names of R13 to R15 and R231, the one inductive `Instr` with a
constructor for every row of spec/opcode_table.json (the twelve unassigned bytes share one), and the table's generic
forms as functions into it (the `form` column).
-/
namespace Sys2Proof

/-- The seven storage registers (R11). -/
inductive Reg where
  | b | c | d | e | h | l | a
  deriving DecidableEq, Repr

/-- An operand slot: a storage register, or M, the memory byte at H:L (R12, R13). -/
inductive Slot where
  | reg (r : Reg)
  | m
  deriving DecidableEq, Repr

/-- The pairs of `LXI INX DCX DAD` (R15, first row). -/
inductive Pair where
  | bc | de | hl | sp
  deriving DecidableEq, Repr

/-- The pairs of `PUSH POP` (R15, second row). -/
inductive StackPair where
  | bc | de | hl | psw
  deriving DecidableEq, Repr

/-- The base pairs of `LDAX STAX` (R15, third row). -/
inductive BasePair where
  | bc | de
  deriving DecidableEq, Repr

/-- The eight conditions (R231). -/
inductive Cond where
  | nz | z | nc | c | po | pe | p | m
  deriving DecidableEq, Repr

/-- One constructor per row of the opcode table, in the table's order. `d8` is the second byte of a two-byte instruction
(R74), `w` the 16-bit operand `hi:lo` of a three-byte one (R74), `op` the offending byte of an unassigned opcode (R83). -/
inductive Instr where
  | nop  -- 0x00 NOP (R260)
  | lxiB (w : Word)  -- 0x01 LXI B,d16 (R185)
  | staxB  -- 0x02 STAX B (R191)
  | inxB  -- 0x03 INX B (R132)
  | inrB  -- 0x04 INR B (R130)
  | dcrB  -- 0x05 DCR B (R131)
  | mviB (d8 : Byte)  -- 0x06 MVI B,d8 (R183)
  | rlc  -- 0x07 RLC (R160)
  | unassigned (op : Byte)  -- 0x08 the twelve unassigned bytes (R267)
  | dadB  -- 0x09 DAD B (R134)
  | ldaxB  -- 0x0A LDAX B (R190)
  | dcxB  -- 0x0B DCX B (R133)
  | inrC  -- 0x0C INR C (R130)
  | dcrC  -- 0x0D DCR C (R131)
  | mviC (d8 : Byte)  -- 0x0E MVI C,d8 (R183)
  | rrc  -- 0x0F RRC (R161)
  | lxiD (w : Word)  -- 0x11 LXI D,d16 (R185)
  | staxD  -- 0x12 STAX D (R191)
  | inxD  -- 0x13 INX D (R132)
  | inrD  -- 0x14 INR D (R130)
  | dcrD  -- 0x15 DCR D (R131)
  | mviD (d8 : Byte)  -- 0x16 MVI D,d8 (R183)
  | ral  -- 0x17 RAL (R162)
  | dadD  -- 0x19 DAD D (R134)
  | ldaxD  -- 0x1A LDAX D (R190)
  | dcxD  -- 0x1B DCX D (R133)
  | inrE  -- 0x1C INR E (R130)
  | dcrE  -- 0x1D DCR E (R131)
  | mviE (d8 : Byte)  -- 0x1E MVI E,d8 (R183)
  | rar  -- 0x1F RAR (R163)
  | lxiH (w : Word)  -- 0x21 LXI H,d16 (R185)
  | shld (w : Word)  -- 0x22 SHLD a16 (R189)
  | inxH  -- 0x23 INX H (R132)
  | inrH  -- 0x24 INR H (R130)
  | dcrH  -- 0x25 DCR H (R131)
  | mviH (d8 : Byte)  -- 0x26 MVI H,d8 (R183)
  | daa  -- 0x27 DAA (R135)
  | dadH  -- 0x29 DAD H (R134)
  | lhld (w : Word)  -- 0x2A LHLD a16 (R188)
  | dcxH  -- 0x2B DCX H (R133)
  | inrL  -- 0x2C INR L (R130)
  | dcrL  -- 0x2D DCR L (R131)
  | mviL (d8 : Byte)  -- 0x2E MVI L,d8 (R183)
  | cma  -- 0x2F CMA (R156)
  | lxiSP (w : Word)  -- 0x31 LXI SP,d16 (R185)
  | sta (w : Word)  -- 0x32 STA a16 (R187)
  | inxSP  -- 0x33 INX SP (R132)
  | inrM  -- 0x34 INR M (R130)
  | dcrM  -- 0x35 DCR M (R131)
  | mviM (d8 : Byte)  -- 0x36 MVI M,d8 (R184)
  | stc  -- 0x37 STC (R157)
  | dadSP  -- 0x39 DAD SP (R134)
  | lda (w : Word)  -- 0x3A LDA a16 (R186)
  | dcxSP  -- 0x3B DCX SP (R133)
  | inrA  -- 0x3C INR A (R130)
  | dcrA  -- 0x3D DCR A (R131)
  | mviA (d8 : Byte)  -- 0x3E MVI A,d8 (R183)
  | cmc  -- 0x3F CMC (R158)
  | movBB  -- 0x40 MOV B,B (R180)
  | movBC  -- 0x41 MOV B,C (R180)
  | movBD  -- 0x42 MOV B,D (R180)
  | movBE  -- 0x43 MOV B,E (R180)
  | movBH  -- 0x44 MOV B,H (R180)
  | movBL  -- 0x45 MOV B,L (R180)
  | movBM  -- 0x46 MOV B,M (R181)
  | movBA  -- 0x47 MOV B,A (R180)
  | movCB  -- 0x48 MOV C,B (R180)
  | movCC  -- 0x49 MOV C,C (R180)
  | movCD  -- 0x4A MOV C,D (R180)
  | movCE  -- 0x4B MOV C,E (R180)
  | movCH  -- 0x4C MOV C,H (R180)
  | movCL  -- 0x4D MOV C,L (R180)
  | movCM  -- 0x4E MOV C,M (R181)
  | movCA  -- 0x4F MOV C,A (R180)
  | movDB  -- 0x50 MOV D,B (R180)
  | movDC  -- 0x51 MOV D,C (R180)
  | movDD  -- 0x52 MOV D,D (R180)
  | movDE  -- 0x53 MOV D,E (R180)
  | movDH  -- 0x54 MOV D,H (R180)
  | movDL  -- 0x55 MOV D,L (R180)
  | movDM  -- 0x56 MOV D,M (R181)
  | movDA  -- 0x57 MOV D,A (R180)
  | movEB  -- 0x58 MOV E,B (R180)
  | movEC  -- 0x59 MOV E,C (R180)
  | movED  -- 0x5A MOV E,D (R180)
  | movEE  -- 0x5B MOV E,E (R180)
  | movEH  -- 0x5C MOV E,H (R180)
  | movEL  -- 0x5D MOV E,L (R180)
  | movEM  -- 0x5E MOV E,M (R181)
  | movEA  -- 0x5F MOV E,A (R180)
  | movHB  -- 0x60 MOV H,B (R180)
  | movHC  -- 0x61 MOV H,C (R180)
  | movHD  -- 0x62 MOV H,D (R180)
  | movHE  -- 0x63 MOV H,E (R180)
  | movHH  -- 0x64 MOV H,H (R180)
  | movHL  -- 0x65 MOV H,L (R180)
  | movHM  -- 0x66 MOV H,M (R181)
  | movHA  -- 0x67 MOV H,A (R180)
  | movLB  -- 0x68 MOV L,B (R180)
  | movLC  -- 0x69 MOV L,C (R180)
  | movLD  -- 0x6A MOV L,D (R180)
  | movLE  -- 0x6B MOV L,E (R180)
  | movLH  -- 0x6C MOV L,H (R180)
  | movLL  -- 0x6D MOV L,L (R180)
  | movLM  -- 0x6E MOV L,M (R181)
  | movLA  -- 0x6F MOV L,A (R180)
  | movMB  -- 0x70 MOV M,B (R182)
  | movMC  -- 0x71 MOV M,C (R182)
  | movMD  -- 0x72 MOV M,D (R182)
  | movME  -- 0x73 MOV M,E (R182)
  | movMH  -- 0x74 MOV M,H (R182)
  | movML  -- 0x75 MOV M,L (R182)
  | hlt  -- 0x76 HLT (R261)
  | movMA  -- 0x77 MOV M,A (R182)
  | movAB  -- 0x78 MOV A,B (R180)
  | movAC  -- 0x79 MOV A,C (R180)
  | movAD  -- 0x7A MOV A,D (R180)
  | movAE  -- 0x7B MOV A,E (R180)
  | movAH  -- 0x7C MOV A,H (R180)
  | movAL  -- 0x7D MOV A,L (R180)
  | movAM  -- 0x7E MOV A,M (R181)
  | movAA  -- 0x7F MOV A,A (R180)
  | addB  -- 0x80 ADD B (R120)
  | addC  -- 0x81 ADD C (R120)
  | addD  -- 0x82 ADD D (R120)
  | addE  -- 0x83 ADD E (R120)
  | addH  -- 0x84 ADD H (R120)
  | addL  -- 0x85 ADD L (R120)
  | addM  -- 0x86 ADD M (R120)
  | addA  -- 0x87 ADD A (R120)
  | adcB  -- 0x88 ADC B (R121)
  | adcC  -- 0x89 ADC C (R121)
  | adcD  -- 0x8A ADC D (R121)
  | adcE  -- 0x8B ADC E (R121)
  | adcH  -- 0x8C ADC H (R121)
  | adcL  -- 0x8D ADC L (R121)
  | adcM  -- 0x8E ADC M (R121)
  | adcA  -- 0x8F ADC A (R121)
  | subB  -- 0x90 SUB B (R124)
  | subC  -- 0x91 SUB C (R124)
  | subD  -- 0x92 SUB D (R124)
  | subE  -- 0x93 SUB E (R124)
  | subH  -- 0x94 SUB H (R124)
  | subL  -- 0x95 SUB L (R124)
  | subM  -- 0x96 SUB M (R124)
  | subA  -- 0x97 SUB A (R124)
  | sbbB  -- 0x98 SBB B (R125)
  | sbbC  -- 0x99 SBB C (R125)
  | sbbD  -- 0x9A SBB D (R125)
  | sbbE  -- 0x9B SBB E (R125)
  | sbbH  -- 0x9C SBB H (R125)
  | sbbL  -- 0x9D SBB L (R125)
  | sbbM  -- 0x9E SBB M (R125)
  | sbbA  -- 0x9F SBB A (R125)
  | anaB  -- 0xA0 ANA B (R150)
  | anaC  -- 0xA1 ANA C (R150)
  | anaD  -- 0xA2 ANA D (R150)
  | anaE  -- 0xA3 ANA E (R150)
  | anaH  -- 0xA4 ANA H (R150)
  | anaL  -- 0xA5 ANA L (R150)
  | anaM  -- 0xA6 ANA M (R150)
  | anaA  -- 0xA7 ANA A (R150)
  | xraB  -- 0xA8 XRA B (R151)
  | xraC  -- 0xA9 XRA C (R151)
  | xraD  -- 0xAA XRA D (R151)
  | xraE  -- 0xAB XRA E (R151)
  | xraH  -- 0xAC XRA H (R151)
  | xraL  -- 0xAD XRA L (R151)
  | xraM  -- 0xAE XRA M (R151)
  | xraA  -- 0xAF XRA A (R151)
  | oraB  -- 0xB0 ORA B (R152)
  | oraC  -- 0xB1 ORA C (R152)
  | oraD  -- 0xB2 ORA D (R152)
  | oraE  -- 0xB3 ORA E (R152)
  | oraH  -- 0xB4 ORA H (R152)
  | oraL  -- 0xB5 ORA L (R152)
  | oraM  -- 0xB6 ORA M (R152)
  | oraA  -- 0xB7 ORA A (R152)
  | cmpB  -- 0xB8 CMP B (R128)
  | cmpC  -- 0xB9 CMP C (R128)
  | cmpD  -- 0xBA CMP D (R128)
  | cmpE  -- 0xBB CMP E (R128)
  | cmpH  -- 0xBC CMP H (R128)
  | cmpL  -- 0xBD CMP L (R128)
  | cmpM  -- 0xBE CMP M (R128)
  | cmpA  -- 0xBF CMP A (R128)
  | rnz  -- 0xC0 RNZ (R237)
  | popB  -- 0xC1 POP B (R216)
  | jnz (w : Word)  -- 0xC2 JNZ a16 (R233)
  | jmp (w : Word)  -- 0xC3 JMP a16 (R232)
  | cnz (w : Word)  -- 0xC4 CNZ a16 (R235)
  | pushB  -- 0xC5 PUSH B (R213)
  | adi (d8 : Byte)  -- 0xC6 ADI d8 (R122)
  | rst0  -- 0xC7 RST 0 (R238)
  | rz  -- 0xC8 RZ (R237)
  | ret  -- 0xC9 RET (R236)
  | jz (w : Word)  -- 0xCA JZ a16 (R233)
  | cz (w : Word)  -- 0xCC CZ a16 (R235)
  | call (w : Word)  -- 0xCD CALL a16 (R234)
  | aci (d8 : Byte)  -- 0xCE ACI d8 (R123)
  | rst1  -- 0xCF RST 1 (R238)
  | rnc  -- 0xD0 RNC (R237)
  | popD  -- 0xD1 POP D (R216)
  | jnc (w : Word)  -- 0xD2 JNC a16 (R233)
  | out (d8 : Byte)  -- 0xD3 OUT d8 (R265)
  | cnc (w : Word)  -- 0xD4 CNC a16 (R235)
  | pushD  -- 0xD5 PUSH D (R213)
  | sui (d8 : Byte)  -- 0xD6 SUI d8 (R126)
  | rst2  -- 0xD7 RST 2 (R238)
  | rc  -- 0xD8 RC (R237)
  | jc (w : Word)  -- 0xDA JC a16 (R233)
  | inp (d8 : Byte)  -- 0xDB IN d8 (R264)
  | cc (w : Word)  -- 0xDC CC a16 (R235)
  | sbi (d8 : Byte)  -- 0xDE SBI d8 (R127)
  | rst3  -- 0xDF RST 3 (R238)
  | rpo  -- 0xE0 RPO (R237)
  | popH  -- 0xE1 POP H (R216)
  | jpo (w : Word)  -- 0xE2 JPO a16 (R233)
  | xthl  -- 0xE3 XTHL (R217)
  | cpo (w : Word)  -- 0xE4 CPO a16 (R235)
  | pushH  -- 0xE5 PUSH H (R213)
  | ani (d8 : Byte)  -- 0xE6 ANI d8 (R153)
  | rst4  -- 0xE7 RST 4 (R238)
  | rpe  -- 0xE8 RPE (R237)
  | pchl  -- 0xE9 PCHL (R239)
  | jpe (w : Word)  -- 0xEA JPE a16 (R233)
  | xchg  -- 0xEB XCHG (R192)
  | cpe (w : Word)  -- 0xEC CPE a16 (R235)
  | xri (d8 : Byte)  -- 0xEE XRI d8 (R154)
  | rst5  -- 0xEF RST 5 (R238)
  | rp  -- 0xF0 RP (R237)
  | popPSW  -- 0xF1 POP PSW (R215)
  | jp (w : Word)  -- 0xF2 JP a16 (R233)
  | di  -- 0xF3 DI (R263)
  | cp (w : Word)  -- 0xF4 CP a16 (R235)
  | pushPSW  -- 0xF5 PUSH PSW (R214)
  | ori (d8 : Byte)  -- 0xF6 ORI d8 (R155)
  | rst6  -- 0xF7 RST 6 (R238)
  | rm  -- 0xF8 RM (R237)
  | sphl  -- 0xF9 SPHL (R218)
  | jm (w : Word)  -- 0xFA JM a16 (R233)
  | ei  -- 0xFB EI (R262)
  | cm (w : Word)  -- 0xFC CM a16 (R235)
  | cpi (d8 : Byte)  -- 0xFE CPI d8 (R129)
  | rst7  -- 0xFF RST 7 (R238)
  deriving DecidableEq, Repr

/-! The generic forms of the table, each a function of its operand fields. -/

/-- `MOV r1,r2` (R180). -/
def Instr.mov : Reg → Reg → Instr
  | .b, .b => .movBB | .b, .c => .movBC | .b, .d => .movBD | .b, .e => .movBE | .b, .h => .movBH | .b, .l => .movBL | .b, .a => .movBA
  | .c, .b => .movCB | .c, .c => .movCC | .c, .d => .movCD | .c, .e => .movCE | .c, .h => .movCH | .c, .l => .movCL | .c, .a => .movCA
  | .d, .b => .movDB | .d, .c => .movDC | .d, .d => .movDD | .d, .e => .movDE | .d, .h => .movDH | .d, .l => .movDL | .d, .a => .movDA
  | .e, .b => .movEB | .e, .c => .movEC | .e, .d => .movED | .e, .e => .movEE | .e, .h => .movEH | .e, .l => .movEL | .e, .a => .movEA
  | .h, .b => .movHB | .h, .c => .movHC | .h, .d => .movHD | .h, .e => .movHE | .h, .h => .movHH | .h, .l => .movHL | .h, .a => .movHA
  | .l, .b => .movLB | .l, .c => .movLC | .l, .d => .movLD | .l, .e => .movLE | .l, .h => .movLH | .l, .l => .movLL | .l, .a => .movLA
  | .a, .b => .movAB | .a, .c => .movAC | .a, .d => .movAD | .a, .e => .movAE | .a, .h => .movAH | .a, .l => .movAL | .a, .a => .movAA

/-- `MOV r,M` (R181). -/
def Instr.movFromM : Reg → Instr
  | .b => .movBM | .c => .movCM | .d => .movDM | .e => .movEM | .h => .movHM | .l => .movLM | .a => .movAM

/-- `MOV M,r` (R182). -/
def Instr.movToM : Reg → Instr
  | .b => .movMB | .c => .movMC | .d => .movMD | .e => .movME | .h => .movMH | .l => .movML | .a => .movMA

/-- `MVI r,d8` and `MVI M,d8` (R183, R184). -/
def Instr.mvi : Slot → Byte → Instr
  | .reg .b, v => .mviB v | .reg .c, v => .mviC v | .reg .d, v => .mviD v | .reg .e, v => .mviE v
  | .reg .h, v => .mviH v | .reg .l, v => .mviL v | .reg .a, v => .mviA v | .m, v => .mviM v

/-- `ADD r` and `ADD M` (R120). -/
def Instr.add : Slot → Instr
  | .reg .b => .addB | .reg .c => .addC | .reg .d => .addD | .reg .e => .addE
  | .reg .h => .addH | .reg .l => .addL | .reg .a => .addA | .m => .addM

/-- `ADC r` and `ADC M` (R121). -/
def Instr.adc : Slot → Instr
  | .reg .b => .adcB | .reg .c => .adcC | .reg .d => .adcD | .reg .e => .adcE
  | .reg .h => .adcH | .reg .l => .adcL | .reg .a => .adcA | .m => .adcM

/-- `SUB r` and `SUB M` (R124). -/
def Instr.sub : Slot → Instr
  | .reg .b => .subB | .reg .c => .subC | .reg .d => .subD | .reg .e => .subE
  | .reg .h => .subH | .reg .l => .subL | .reg .a => .subA | .m => .subM

/-- `SBB r` and `SBB M` (R125). -/
def Instr.sbb : Slot → Instr
  | .reg .b => .sbbB | .reg .c => .sbbC | .reg .d => .sbbD | .reg .e => .sbbE
  | .reg .h => .sbbH | .reg .l => .sbbL | .reg .a => .sbbA | .m => .sbbM

/-- `ANA r` and `ANA M` (R150). -/
def Instr.ana : Slot → Instr
  | .reg .b => .anaB | .reg .c => .anaC | .reg .d => .anaD | .reg .e => .anaE
  | .reg .h => .anaH | .reg .l => .anaL | .reg .a => .anaA | .m => .anaM

/-- `XRA r` and `XRA M` (R151). -/
def Instr.xra : Slot → Instr
  | .reg .b => .xraB | .reg .c => .xraC | .reg .d => .xraD | .reg .e => .xraE
  | .reg .h => .xraH | .reg .l => .xraL | .reg .a => .xraA | .m => .xraM

/-- `ORA r` and `ORA M` (R152). -/
def Instr.ora : Slot → Instr
  | .reg .b => .oraB | .reg .c => .oraC | .reg .d => .oraD | .reg .e => .oraE
  | .reg .h => .oraH | .reg .l => .oraL | .reg .a => .oraA | .m => .oraM

/-- `CMP r` and `CMP M` (R128). -/
def Instr.cmp : Slot → Instr
  | .reg .b => .cmpB | .reg .c => .cmpC | .reg .d => .cmpD | .reg .e => .cmpE
  | .reg .h => .cmpH | .reg .l => .cmpL | .reg .a => .cmpA | .m => .cmpM

/-- `INR r` and `INR M` (R130). -/
def Instr.inr : Slot → Instr
  | .reg .b => .inrB | .reg .c => .inrC | .reg .d => .inrD | .reg .e => .inrE
  | .reg .h => .inrH | .reg .l => .inrL | .reg .a => .inrA | .m => .inrM

/-- `DCR r` and `DCR M` (R131). -/
def Instr.dcr : Slot → Instr
  | .reg .b => .dcrB | .reg .c => .dcrC | .reg .d => .dcrD | .reg .e => .dcrE
  | .reg .h => .dcrH | .reg .l => .dcrL | .reg .a => .dcrA | .m => .dcrM

/-- `LXI rp,d16` (R185). -/
def Instr.lxi : Pair → Word → Instr
  | .bc, w => .lxiB w | .de, w => .lxiD w | .hl, w => .lxiH w | .sp, w => .lxiSP w

/-- `INX rp` (R132). -/
def Instr.inx : Pair → Instr
  | .bc => .inxB | .de => .inxD | .hl => .inxH | .sp => .inxSP

/-- `DCX rp` (R133). -/
def Instr.dcx : Pair → Instr
  | .bc => .dcxB | .de => .dcxD | .hl => .dcxH | .sp => .dcxSP

/-- `DAD rp` (R134). -/
def Instr.dad : Pair → Instr
  | .bc => .dadB | .de => .dadD | .hl => .dadH | .sp => .dadSP

/-- `LDAX rp` (R190). -/
def Instr.ldax : BasePair → Instr
  | .bc => .ldaxB | .de => .ldaxD

/-- `STAX rp` (R191). -/
def Instr.stax : BasePair → Instr
  | .bc => .staxB | .de => .staxD

/-- `PUSH rp` and `PUSH PSW` (R213, R214). -/
def Instr.push : StackPair → Instr
  | .bc => .pushB | .de => .pushD | .hl => .pushH | .psw => .pushPSW

/-- `POP rp` and `POP PSW` (R216, R215). -/
def Instr.pop : StackPair → Instr
  | .bc => .popB | .de => .popD | .hl => .popH | .psw => .popPSW

/-- `Jccc` (R233). -/
def Instr.jccc : Cond → Word → Instr
  | .nz, w => .jnz w | .z, w => .jz w | .nc, w => .jnc w | .c, w => .jc w | .po, w => .jpo w | .pe, w => .jpe w | .p, w => .jp w | .m, w => .jm w

/-- `Cccc` (R235). -/
def Instr.cccc : Cond → Word → Instr
  | .nz, w => .cnz w | .z, w => .cz w | .nc, w => .cnc w | .c, w => .cc w | .po, w => .cpo w | .pe, w => .cpe w | .p, w => .cp w | .m, w => .cm w

/-- `Rccc` (R237). -/
def Instr.rccc : Cond → Instr
  | .nz => .rnz | .z => .rz | .nc => .rnc | .c => .rc | .po => .rpo | .pe => .rpe | .p => .rp | .m => .rm

/-- `RST n` (R238). -/
def Instr.rst : Fin 8 → Instr
  | 0 => .rst0 | 1 => .rst1 | 2 => .rst2 | 3 => .rst3 | 4 => .rst4 | 5 => .rst5 | 6 => .rst6 | 7 => .rst7

end Sys2Proof
end

