-- ==== Sys2Proof/Machine/Flags.lean ====
section
/-!
DEFINITION. Every flag computation of the spec: the helpers of R101 to R111, decimal adjust (R135), the four rotates
(R160 to R163), the flag byte (R22) and the condition predicate (R231). All are functions of bytes and flags.
-/
namespace Sys2Proof.Machine

/-- `parity(v)`: true when the number of 1 bits of `v` is even (R102). -/
def parity (v : Byte) : Bool := (List.range 8).countP (fun i => v.getLsbD i) % 2 == 0

/-- `SetZSP(r)`: writes Z, S and P and nothing else (R101). -/
def Flags.setZSP (f : Flags) (r : Byte) : Flags :=
  { f with z := r == 0, s := r.getLsbD 7, p := parity r }

/-- The low nibble of a byte, as a number. -/
def lowNibble (v : Byte) : Nat := v.toNat % 16

/-- The auxiliary carry of the addition of `a`, `v` and the carry-in (R104). -/
def addAC (a v : Byte) (c : Bool) : Bool := decide (lowNibble a + lowNibble v + c.toNat > 0x0F)

/-- The auxiliary carry of the subtraction of `v` and the borrow-in from `a`: the carry out of bit 3 of `a + ~v + (1 - b)` (R106). -/
def subAC (a v : Byte) (b : Bool) : Bool := decide (lowNibble a + lowNibble (~~~v) + (1 - b.toNat) > 0x0F)

/-- `Add8(a, v, c)`: the returned byte and all five flags (R109). -/
def add8 (a v : Byte) (c : Bool) (f : Flags) : Byte × Flags :=
  let t := a.toNat + v.toNat + c.toNat
  let r := BitVec.ofNat 8 t
  (r, { f.setZSP r with cy := decide (t > 0xFF), ac := addAC a v c })

/-- `Sub8(a, v, b)`: the returned byte and all five flags (R110). -/
def sub8 (a v : Byte) (b : Bool) (f : Flags) : Byte × Flags :=
  let t : Int := (a.toNat : Int) - v.toNat - b.toNat
  let r := BitVec.ofInt 8 t
  (r, { f.setZSP r with cy := decide (t < 0), ac := subAC a v b })

/-- The operations of `Logic8` (R111). -/
inductive LogicOp where
  | and | xor | or
  deriving DecidableEq, Repr

/-- `Logic8(op, a, v)`: CY is 0; AC is bit 3 of `a | v` for AND and 0 for XOR and OR (R111). -/
def logic8 (op : LogicOp) (a v : Byte) (f : Flags) : Byte × Flags :=
  match op with
  | .and => let r := a &&& v; (r, { f.setZSP r with cy := false, ac := (a ||| v).getLsbD 3 })
  | .xor => let r := a ^^^ v; (r, { f.setZSP r with cy := false, ac := false })
  | .or => let r := a ||| v; (r, { f.setZSP r with cy := false, ac := false })

/-- Increment: Z, S, P from the result, AC of R107, CY kept (R130). -/
def inc8 (v : Byte) (f : Flags) : Byte × Flags :=
  let r := v + 1
  (r, { f.setZSP r with ac := lowNibble v == 0x0F })

/-- Decrement: Z, S, P from the result, AC of R108, CY kept (R131). -/
def dec8 (v : Byte) (f : Flags) : Byte × Flags :=
  let r := v - 1
  (r, { f.setZSP r with ac := lowNibble v != 0x00 })

/-- `DAA`: the two steps of R135. CY is set or kept, never cleared; AC is the carry out of bit 3 of the first step. -/
def daa8 (a : Byte) (f : Flags) : Byte × Flags :=
  let fixLow := decide (lowNibble a > 9) || f.ac
  let ac := fixLow && decide (lowNibble a + 6 > 0x0F)
  let t1 := if fixLow then a.toNat + 0x06 else a.toNat
  let cy1 := f.cy || decide (t1 > 0xFF)
  let a1 := t1 % 256
  let fixHigh := decide (a1 / 16 > 9) || cy1
  let t2 := if fixHigh then a1 + 0x60 else a1
  let cy2 := cy1 || decide (t2 > 0xFF)
  let r := BitVec.ofNat 8 t2
  (r, { f.setZSP r with cy := cy2, ac := ac })

/-- A bit as a byte, 0 or 1 (R6). -/
def bitByte (b : Bool) : Byte := if b then 1 else 0

/-- `RLC`: the byte and the bit rotated out (R160). -/
def rotLeft (a : Byte) : Byte × Bool := ((a <<< 1) ||| bitByte (a.getLsbD 7), a.getLsbD 7)

/-- `RRC`: the byte and the bit rotated out (R161). -/
def rotRight (a : Byte) : Byte × Bool := ((a >>> 1) ||| (bitByte (a.getLsbD 0) <<< 7), a.getLsbD 0)

/-- `RAL`: the old carry enters bit 0 (R162). -/
def rotLeftCarry (a : Byte) (cy : Bool) : Byte × Bool := ((a <<< 1) ||| bitByte cy, a.getLsbD 7)

/-- `RAR`: the old carry enters bit 7 (R163). -/
def rotRightCarry (a : Byte) (cy : Bool) : Byte × Bool := ((a >>> 1) ||| (bitByte cy <<< 7), a.getLsbD 0)

/-- `FlagByte()` (R22). -/
def Flags.toByte (f : Flags) : Byte :=
  (bitByte f.s <<< 7) ||| (bitByte f.z <<< 6) ||| (bitByte f.ac <<< 4) ||| (bitByte f.p <<< 2) ||| 0x02 ||| bitByte f.cy

/-- The flags a popped byte gives; its bits 5, 3 and 1 are ignored (R215). -/
def Flags.ofByte (v : Byte) : Flags :=
  { s := v.getLsbD 7, z := v.getLsbD 6, ac := v.getLsbD 4, p := v.getLsbD 2, cy := v.getLsbD 0 }

/-- `cond(ccc)` (R231). -/
def condHolds : Cond → Flags → Bool
  | .nz, f => !f.z
  | .z, f => f.z
  | .nc, f => !f.cy
  | .c, f => f.cy
  | .po, f => !f.p
  | .pe, f => f.p
  | .p, f => !f.s
  | .m, f => f.s

end Sys2Proof.Machine
end

