-- ==== Sys2Proof/Config.lean ====
section
/-!
DEFINITION. The parameters of R5 that are fixed for this hardware. The three the spec leaves as
parameters with a default (`SP_RESET`, `CYCLE_COST`, `INT_ACK_CLEARS_IE`) stand in Machine/Params.lean.
-/
namespace Sys2Proof.Config

/-- `RAM_BASE`: the first address of the write window, and the lowest address a store is honoured at (R5, R44). -/
def ramBase : Word := 0x2000

/-- `MIRROR_BASE`: addresses at or above it alias the write window (R5, R43). -/
def mirrorBase : Word := 0x4000

/-- The address bits that select a cell inside the 8 KB window (R43: `a & 0x1FFF`). -/
def windowMask : Word := 0x1FFF

/-- The number of cells of `MEM` (R40). -/
def memCells : Nat := 65536

/-- `N_PORTS`: the number of entries of each port bank (R5, R26). -/
def nPorts : Nat := 256

/-- The twelve opcode bytes that select no instruction (R83). -/
def unassignedOpcodes : List Byte :=
  [0x08, 0x10, 0x18, 0x20, 0x28, 0x30, 0x38, 0xCB, 0xD9, 0xDD, 0xED, 0xFD]

end Sys2Proof.Config
end

