-- ==== Sys2Proof/Machine/Bytes.lean ====
section
/-!
DEFINITION. The two halves of a 16-bit value (R6: `hi:lo`; R45: byte order).
-/
namespace Sys2Proof

/-- `hi:lo`, that is `(hi << 8) | lo` (R6). -/
def joinBytes (hi lo : Byte) : Word := hi ++ lo

/-- `w[15:8]` (R6). -/
def highByte (w : Word) : Byte := w.extractLsb' 8 8

/-- `w[7:0]` (R6). -/
def lowByte (w : Word) : Byte := w.extractLsb' 0 8

end Sys2Proof
end

