-- ==== Sys2Proof/WellFormed.lean ====
section
/-!
DEFINITION. Which terms of `Instr` are instructions of the machine. Operand bytes and words are used as they are, with no
reserved value (R74, R84), so the only check is on the byte an unassigned opcode carries (R83).
-/
namespace Sys2Proof

/-- Why a term is not an instruction of the machine. -/
inductive IllFormed where
  /-- `unassigned op` with a byte that the opcode map assigns (R80, R83). -/
  | assignedOpcode (op : Byte)
  deriving DecidableEq, Repr

/-- The check a term fails, if any. Every constructor is named, so that a new one cannot slip past. -/
def Instr.illFormed : Instr → Option IllFormed
  | .unassigned op => if Config.unassignedOpcodes.contains op then none else some (.assignedOpcode op)
  | .nop | .lxiB _ | .staxB | .inxB | .inrB | .dcrB | .mviB _ | .rlc | .dadB | .ldaxB | .dcxB | .inrC | .dcrC
  | .mviC _ | .rrc | .lxiD _ | .staxD | .inxD | .inrD | .dcrD | .mviD _ | .ral | .dadD | .ldaxD | .dcxD | .inrE
  | .dcrE | .mviE _ | .rar | .lxiH _ | .shld _ | .inxH | .inrH | .dcrH | .mviH _ | .daa | .dadH | .lhld _
  | .dcxH | .inrL | .dcrL | .mviL _ | .cma | .lxiSP _ | .sta _ | .inxSP | .inrM | .dcrM | .mviM _ | .stc
  | .dadSP | .lda _ | .dcxSP | .inrA | .dcrA | .mviA _ | .cmc | .movBB | .movBC | .movBD | .movBE | .movBH
  | .movBL | .movBM | .movBA | .movCB | .movCC | .movCD | .movCE | .movCH | .movCL | .movCM | .movCA | .movDB
  | .movDC | .movDD | .movDE | .movDH | .movDL | .movDM | .movDA | .movEB | .movEC | .movED | .movEE | .movEH
  | .movEL | .movEM | .movEA | .movHB | .movHC | .movHD | .movHE | .movHH | .movHL | .movHM | .movHA | .movLB
  | .movLC | .movLD | .movLE | .movLH | .movLL | .movLM | .movLA | .movMB | .movMC | .movMD | .movME | .movMH
  | .movML | .hlt | .movMA | .movAB | .movAC | .movAD | .movAE | .movAH | .movAL | .movAM | .movAA | .addB
  | .addC | .addD | .addE | .addH | .addL | .addM | .addA | .adcB | .adcC | .adcD | .adcE | .adcH | .adcL
  | .adcM | .adcA | .subB | .subC | .subD | .subE | .subH | .subL | .subM | .subA | .sbbB | .sbbC | .sbbD
  | .sbbE | .sbbH | .sbbL | .sbbM | .sbbA | .anaB | .anaC | .anaD | .anaE | .anaH | .anaL | .anaM | .anaA
  | .xraB | .xraC | .xraD | .xraE | .xraH | .xraL | .xraM | .xraA | .oraB | .oraC | .oraD | .oraE | .oraH
  | .oraL | .oraM | .oraA | .cmpB | .cmpC | .cmpD | .cmpE | .cmpH | .cmpL | .cmpM | .cmpA | .rnz | .popB
  | .jnz _ | .jmp _ | .cnz _ | .pushB | .adi _ | .rst0 | .rz | .ret | .jz _ | .cz _ | .call _ | .aci _ | .rst1
  | .rnc | .popD | .jnc _ | .out _ | .cnc _ | .pushD | .sui _ | .rst2 | .rc | .jc _ | .inp _ | .cc _ | .sbi _
  | .rst3 | .rpo | .popH | .jpo _ | .xthl | .cpo _ | .pushH | .ani _ | .rst4 | .rpe | .pchl | .jpe _ | .xchg
  | .cpe _ | .xri _ | .rst5 | .rp | .popPSW | .jp _ | .di | .cp _ | .pushPSW | .ori _ | .rst6 | .rm | .sphl
  | .jm _ | .ei | .cm _ | .cpi _ | .rst7 => none

/-- A term that passes every check. -/
abbrev Instr.WellFormed (i : Instr) : Prop := i.illFormed = none

end Sys2Proof
end

