-- ==== Sys2Proof/Decode.lean ====
section
/-!
DEFINITION. The decoder, total on any bytes, written from the opcode map of R80 row by row, and after it the encoder,
written from the bit patterns of R81 and the field codes of R14, R15, R75 and R231: two descriptions of one map, so that
their agreement says something.
-/
namespace Sys2Proof

/-! ## The opcode map (R80) -/

/-- One entry of the map: what the opcode byte selects, by the format of R71 (F1, F2, F3). -/
inductive Entry where
  /-- F1: the opcode byte alone. -/
  | f1 (i : Instr)
  /-- F2: one operand byte d8. -/
  | f2 (k : Byte → Instr)
  /-- F3: two operand bytes, lo then hi. -/
  | f3 (k : Word → Instr)

def mapRow0 : List Entry :=
  [.f1 .nop, .f3 .lxiB, .f1 .staxB, .f1 .inxB, .f1 .inrB, .f1 .dcrB, .f2 .mviB, .f1 .rlc, .f1 (.unassigned 0x08),
   .f1 .dadB, .f1 .ldaxB, .f1 .dcxB, .f1 .inrC, .f1 .dcrC, .f2 .mviC, .f1 .rrc]

def mapRow1 : List Entry :=
  [.f1 (.unassigned 0x10), .f3 .lxiD, .f1 .staxD, .f1 .inxD, .f1 .inrD, .f1 .dcrD, .f2 .mviD, .f1 .ral,
   .f1 (.unassigned 0x18), .f1 .dadD, .f1 .ldaxD, .f1 .dcxD, .f1 .inrE, .f1 .dcrE, .f2 .mviE, .f1 .rar]

def mapRow2 : List Entry :=
  [.f1 (.unassigned 0x20), .f3 .lxiH, .f3 .shld, .f1 .inxH, .f1 .inrH, .f1 .dcrH, .f2 .mviH, .f1 .daa,
   .f1 (.unassigned 0x28), .f1 .dadH, .f3 .lhld, .f1 .dcxH, .f1 .inrL, .f1 .dcrL, .f2 .mviL, .f1 .cma]

def mapRow3 : List Entry :=
  [.f1 (.unassigned 0x30), .f3 .lxiSP, .f3 .sta, .f1 .inxSP, .f1 .inrM, .f1 .dcrM, .f2 .mviM, .f1 .stc,
   .f1 (.unassigned 0x38), .f1 .dadSP, .f3 .lda, .f1 .dcxSP, .f1 .inrA, .f1 .dcrA, .f2 .mviA, .f1 .cmc]

def mapRow4 : List Entry :=
  [.f1 .movBB, .f1 .movBC, .f1 .movBD, .f1 .movBE, .f1 .movBH, .f1 .movBL, .f1 .movBM, .f1 .movBA, .f1 .movCB,
   .f1 .movCC, .f1 .movCD, .f1 .movCE, .f1 .movCH, .f1 .movCL, .f1 .movCM, .f1 .movCA]

def mapRow5 : List Entry :=
  [.f1 .movDB, .f1 .movDC, .f1 .movDD, .f1 .movDE, .f1 .movDH, .f1 .movDL, .f1 .movDM, .f1 .movDA, .f1 .movEB,
   .f1 .movEC, .f1 .movED, .f1 .movEE, .f1 .movEH, .f1 .movEL, .f1 .movEM, .f1 .movEA]

def mapRow6 : List Entry :=
  [.f1 .movHB, .f1 .movHC, .f1 .movHD, .f1 .movHE, .f1 .movHH, .f1 .movHL, .f1 .movHM, .f1 .movHA, .f1 .movLB,
   .f1 .movLC, .f1 .movLD, .f1 .movLE, .f1 .movLH, .f1 .movLL, .f1 .movLM, .f1 .movLA]

def mapRow7 : List Entry :=
  [.f1 .movMB, .f1 .movMC, .f1 .movMD, .f1 .movME, .f1 .movMH, .f1 .movML, .f1 .hlt, .f1 .movMA, .f1 .movAB,
   .f1 .movAC, .f1 .movAD, .f1 .movAE, .f1 .movAH, .f1 .movAL, .f1 .movAM, .f1 .movAA]

def mapRow8 : List Entry :=
  [.f1 .addB, .f1 .addC, .f1 .addD, .f1 .addE, .f1 .addH, .f1 .addL, .f1 .addM, .f1 .addA, .f1 .adcB, .f1 .adcC,
   .f1 .adcD, .f1 .adcE, .f1 .adcH, .f1 .adcL, .f1 .adcM, .f1 .adcA]

def mapRow9 : List Entry :=
  [.f1 .subB, .f1 .subC, .f1 .subD, .f1 .subE, .f1 .subH, .f1 .subL, .f1 .subM, .f1 .subA, .f1 .sbbB, .f1 .sbbC,
   .f1 .sbbD, .f1 .sbbE, .f1 .sbbH, .f1 .sbbL, .f1 .sbbM, .f1 .sbbA]

def mapRowA : List Entry :=
  [.f1 .anaB, .f1 .anaC, .f1 .anaD, .f1 .anaE, .f1 .anaH, .f1 .anaL, .f1 .anaM, .f1 .anaA, .f1 .xraB, .f1 .xraC,
   .f1 .xraD, .f1 .xraE, .f1 .xraH, .f1 .xraL, .f1 .xraM, .f1 .xraA]

def mapRowB : List Entry :=
  [.f1 .oraB, .f1 .oraC, .f1 .oraD, .f1 .oraE, .f1 .oraH, .f1 .oraL, .f1 .oraM, .f1 .oraA, .f1 .cmpB, .f1 .cmpC,
   .f1 .cmpD, .f1 .cmpE, .f1 .cmpH, .f1 .cmpL, .f1 .cmpM, .f1 .cmpA]

def mapRowC : List Entry :=
  [.f1 .rnz, .f1 .popB, .f3 .jnz, .f3 .jmp, .f3 .cnz, .f1 .pushB, .f2 .adi, .f1 .rst0, .f1 .rz, .f1 .ret, .f3 .jz,
   .f1 (.unassigned 0xCB), .f3 .cz, .f3 .call, .f2 .aci, .f1 .rst1]

def mapRowD : List Entry :=
  [.f1 .rnc, .f1 .popD, .f3 .jnc, .f2 .out, .f3 .cnc, .f1 .pushD, .f2 .sui, .f1 .rst2, .f1 .rc,
   .f1 (.unassigned 0xD9), .f3 .jc, .f2 .inp, .f3 .cc, .f1 (.unassigned 0xDD), .f2 .sbi, .f1 .rst3]

def mapRowE : List Entry :=
  [.f1 .rpo, .f1 .popH, .f3 .jpo, .f1 .xthl, .f3 .cpo, .f1 .pushH, .f2 .ani, .f1 .rst4, .f1 .rpe, .f1 .pchl,
   .f3 .jpe, .f1 .xchg, .f3 .cpe, .f1 (.unassigned 0xED), .f2 .xri, .f1 .rst5]

def mapRowF : List Entry :=
  [.f1 .rp, .f1 .popPSW, .f3 .jp, .f1 .di, .f3 .cp, .f1 .pushPSW, .f2 .ori, .f1 .rst6, .f1 .rm, .f1 .sphl,
   .f3 .jm, .f1 .ei, .f3 .cm, .f1 (.unassigned 0xFD), .f2 .cpi, .f1 .rst7]

/-- The 256 entries in opcode order. -/
def opcodeMap : List Entry :=
  mapRow0 ++ mapRow1 ++ mapRow2 ++ mapRow3 ++ mapRow4 ++ mapRow5 ++ mapRow6 ++ mapRow7 ++
  mapRow8 ++ mapRow9 ++ mapRowA ++ mapRowB ++ mapRowC ++ mapRowD ++ mapRowE ++ mapRowF

/-- The entry an opcode byte selects. The map has an entry for every byte (R80, C8), so the default is never reached. -/
def entryOf (op : Byte) : Entry := opcodeMap.getD op.toNat (.f1 (.unassigned op))

/-- The instruction an entry and its operand bytes make (R74); an F1 entry takes neither byte and an F2 entry only the first (R282). -/
def Entry.build : Entry → Byte → Byte → Instr
  | .f1 i, _, _ => i
  | .f2 k, d8, _ => k d8
  | .f3 k, lo, hi => k (joinBytes hi lo)

/-- The number of bytes of the instruction (R71). -/
def Entry.length : Entry → Nat
  | .f1 _ => 1
  | .f2 _ => 2
  | .f3 _ => 3

/-- Decode an opcode byte and the two bytes after it; the opcode byte alone decides how many of them are used (R70, R283). -/
def decode (op b1 b2 : Byte) : Instr := (entryOf op).build b1 b2

/-- Why a list of bytes holds no whole instruction. -/
inductive DecodeReject where
  /-- There is no opcode byte. -/
  | noOpcode
  /-- The opcode byte calls for more operand bytes than follow it. -/
  | missingOperand (op : Byte)
  deriving DecidableEq, Repr

/-- Decode the instruction at the head of a list of bytes and give the bytes after it, or say why there is none. -/
def decodeBytes : List Byte → Except DecodeReject (Instr × List Byte)
  | [] => .error .noOpcode
  | op :: rest =>
    match entryOf op, rest with
    | .f1 i, rest => .ok (i, rest)
    | .f2 k, d8 :: rest => .ok (k d8, rest)
    | .f3 k, lo :: hi :: rest => .ok (k (joinBytes hi lo), rest)
    | _, _ => .error (.missingOperand op)

/-- The instruction the decoder reads from the `nbits` low bits of `w`, the opcode byte being bits 7..0 and each operand
byte following it upward; every bit above `nbits` is 0. The decoder refuses no byte, so the answer is never `none`. -/
def decodeTableWord (nbits w : Nat) : Option Instr :=
  let v := w % 2 ^ nbits
  some (decode (BitVec.ofNat 8 v) (BitVec.ofNat 8 (v / 256)) (BitVec.ofNat 8 (v / 65536)))

/-! ## The length from the opcode byte (R72) -/

/-- R72's list of lengths, by bit pattern. -/
def instrLength (op : Byte) : Nat :=
  if op &&& 0xCF = 0x01 ∨ op = 0x22 ∨ op = 0x2A ∨ op = 0x32 ∨ op = 0x3A ∨ op &&& 0xC7 = 0xC2 ∨ op = 0xC3 ∨
     op &&& 0xC7 = 0xC4 ∨ op = 0xCD then 3
  else if op &&& 0xC7 = 0x06 ∨ op &&& 0xC7 = 0xC6 ∨ op = 0xD3 ∨ op = 0xDB then 2
  else 1

/-! ## The fields of the opcode byte (R73) and the encoder (R81) -/

/-- The 3-bit slot code of a storage register (R14). -/
def Reg.code : Reg → Byte
  | .b => 0 | .c => 1 | .d => 2 | .e => 3 | .h => 4 | .l => 5 | .a => 7

/-- The 3-bit slot code (R14). -/
def Slot.code : Slot → Byte
  | .reg r => r.code
  | .m => 6

/-- The 2-bit pair code (R15). -/
def Pair.code : Pair → Byte
  | .bc => 0 | .de => 1 | .hl => 2 | .sp => 3

/-- The 2-bit pair code (R15). -/
def StackPair.code : StackPair → Byte
  | .bc => 0 | .de => 1 | .hl => 2 | .psw => 3

/-- The 1-bit pair code of `LDAX STAX` (R73). -/
def BasePair.code : BasePair → Byte
  | .bc => 0 | .de => 1

/-- The 3-bit condition code (R231). -/
def Cond.code : Cond → Byte
  | .nz => 0 | .z => 1 | .nc => 2 | .c => 3 | .po => 4 | .pe => 5 | .p => 6 | .m => 7

/-- An opcode byte with a field in bits 5:3 (`ddd`, `ooo`, `ccc`, `nnn`). -/
def byteMid (base field : Byte) : Byte := base ||| (field <<< 3)

/-- An opcode byte with a field in bits 5:4 (`pp`, or `p` of `LDAX STAX`). -/
def bytePair (base field : Byte) : Byte := base ||| (field <<< 4)

/-- An opcode byte with a field in bits 2:0 (`sss`). -/
def byteLow (base field : Byte) : Byte := base ||| field

/-- An opcode byte followed by a 16-bit operand, low byte first (R45, R71). -/
def withWord (op : Byte) (w : Word) : List Byte := [op, lowByte w, highByte w]

/-- The bytes of an instruction, opcode first, by the patterns of R81. -/
def encode : Instr → List Byte
  | .nop => [0x00]
  | .lxiB w => withWord (bytePair 0x01 (Pair.code .bc)) w
  | .staxB => [bytePair 0x02 (BasePair.code .bc)]
  | .inxB => [bytePair 0x03 (Pair.code .bc)]
  | .inrB => [byteMid 0x04 (Reg.code .b)]
  | .dcrB => [byteMid 0x05 (Reg.code .b)]
  | .mviB d8 => [byteMid 0x06 (Reg.code .b), d8]
  | .rlc => [0x07]
  | .unassigned op => [op]
  | .dadB => [bytePair 0x09 (Pair.code .bc)]
  | .ldaxB => [bytePair 0x0A (BasePair.code .bc)]
  | .dcxB => [bytePair 0x0B (Pair.code .bc)]
  | .inrC => [byteMid 0x04 (Reg.code .c)]
  | .dcrC => [byteMid 0x05 (Reg.code .c)]
  | .mviC d8 => [byteMid 0x06 (Reg.code .c), d8]
  | .rrc => [0x0F]
  | .lxiD w => withWord (bytePair 0x01 (Pair.code .de)) w
  | .staxD => [bytePair 0x02 (BasePair.code .de)]
  | .inxD => [bytePair 0x03 (Pair.code .de)]
  | .inrD => [byteMid 0x04 (Reg.code .d)]
  | .dcrD => [byteMid 0x05 (Reg.code .d)]
  | .mviD d8 => [byteMid 0x06 (Reg.code .d), d8]
  | .ral => [0x17]
  | .dadD => [bytePair 0x09 (Pair.code .de)]
  | .ldaxD => [bytePair 0x0A (BasePair.code .de)]
  | .dcxD => [bytePair 0x0B (Pair.code .de)]
  | .inrE => [byteMid 0x04 (Reg.code .e)]
  | .dcrE => [byteMid 0x05 (Reg.code .e)]
  | .mviE d8 => [byteMid 0x06 (Reg.code .e), d8]
  | .rar => [0x1F]
  | .lxiH w => withWord (bytePair 0x01 (Pair.code .hl)) w
  | .shld w => withWord 0x22 w
  | .inxH => [bytePair 0x03 (Pair.code .hl)]
  | .inrH => [byteMid 0x04 (Reg.code .h)]
  | .dcrH => [byteMid 0x05 (Reg.code .h)]
  | .mviH d8 => [byteMid 0x06 (Reg.code .h), d8]
  | .daa => [0x27]
  | .dadH => [bytePair 0x09 (Pair.code .hl)]
  | .lhld w => withWord 0x2A w
  | .dcxH => [bytePair 0x0B (Pair.code .hl)]
  | .inrL => [byteMid 0x04 (Reg.code .l)]
  | .dcrL => [byteMid 0x05 (Reg.code .l)]
  | .mviL d8 => [byteMid 0x06 (Reg.code .l), d8]
  | .cma => [0x2F]
  | .lxiSP w => withWord (bytePair 0x01 (Pair.code .sp)) w
  | .sta w => withWord 0x32 w
  | .inxSP => [bytePair 0x03 (Pair.code .sp)]
  | .inrM => [byteMid 0x04 (Slot.code .m)]
  | .dcrM => [byteMid 0x05 (Slot.code .m)]
  | .mviM d8 => [byteMid 0x06 (Slot.code .m), d8]
  | .stc => [0x37]
  | .dadSP => [bytePair 0x09 (Pair.code .sp)]
  | .lda w => withWord 0x3A w
  | .dcxSP => [bytePair 0x0B (Pair.code .sp)]
  | .inrA => [byteMid 0x04 (Reg.code .a)]
  | .dcrA => [byteMid 0x05 (Reg.code .a)]
  | .mviA d8 => [byteMid 0x06 (Reg.code .a), d8]
  | .cmc => [0x3F]
  | .movBB => [byteLow (byteMid 0x40 (Reg.code .b)) (Reg.code .b)]
  | .movBC => [byteLow (byteMid 0x40 (Reg.code .b)) (Reg.code .c)]
  | .movBD => [byteLow (byteMid 0x40 (Reg.code .b)) (Reg.code .d)]
  | .movBE => [byteLow (byteMid 0x40 (Reg.code .b)) (Reg.code .e)]
  | .movBH => [byteLow (byteMid 0x40 (Reg.code .b)) (Reg.code .h)]
  | .movBL => [byteLow (byteMid 0x40 (Reg.code .b)) (Reg.code .l)]
  | .movBM => [byteLow (byteMid 0x40 (Reg.code .b)) (Slot.code .m)]
  | .movBA => [byteLow (byteMid 0x40 (Reg.code .b)) (Reg.code .a)]
  | .movCB => [byteLow (byteMid 0x40 (Reg.code .c)) (Reg.code .b)]
  | .movCC => [byteLow (byteMid 0x40 (Reg.code .c)) (Reg.code .c)]
  | .movCD => [byteLow (byteMid 0x40 (Reg.code .c)) (Reg.code .d)]
  | .movCE => [byteLow (byteMid 0x40 (Reg.code .c)) (Reg.code .e)]
  | .movCH => [byteLow (byteMid 0x40 (Reg.code .c)) (Reg.code .h)]
  | .movCL => [byteLow (byteMid 0x40 (Reg.code .c)) (Reg.code .l)]
  | .movCM => [byteLow (byteMid 0x40 (Reg.code .c)) (Slot.code .m)]
  | .movCA => [byteLow (byteMid 0x40 (Reg.code .c)) (Reg.code .a)]
  | .movDB => [byteLow (byteMid 0x40 (Reg.code .d)) (Reg.code .b)]
  | .movDC => [byteLow (byteMid 0x40 (Reg.code .d)) (Reg.code .c)]
  | .movDD => [byteLow (byteMid 0x40 (Reg.code .d)) (Reg.code .d)]
  | .movDE => [byteLow (byteMid 0x40 (Reg.code .d)) (Reg.code .e)]
  | .movDH => [byteLow (byteMid 0x40 (Reg.code .d)) (Reg.code .h)]
  | .movDL => [byteLow (byteMid 0x40 (Reg.code .d)) (Reg.code .l)]
  | .movDM => [byteLow (byteMid 0x40 (Reg.code .d)) (Slot.code .m)]
  | .movDA => [byteLow (byteMid 0x40 (Reg.code .d)) (Reg.code .a)]
  | .movEB => [byteLow (byteMid 0x40 (Reg.code .e)) (Reg.code .b)]
  | .movEC => [byteLow (byteMid 0x40 (Reg.code .e)) (Reg.code .c)]
  | .movED => [byteLow (byteMid 0x40 (Reg.code .e)) (Reg.code .d)]
  | .movEE => [byteLow (byteMid 0x40 (Reg.code .e)) (Reg.code .e)]
  | .movEH => [byteLow (byteMid 0x40 (Reg.code .e)) (Reg.code .h)]
  | .movEL => [byteLow (byteMid 0x40 (Reg.code .e)) (Reg.code .l)]
  | .movEM => [byteLow (byteMid 0x40 (Reg.code .e)) (Slot.code .m)]
  | .movEA => [byteLow (byteMid 0x40 (Reg.code .e)) (Reg.code .a)]
  | .movHB => [byteLow (byteMid 0x40 (Reg.code .h)) (Reg.code .b)]
  | .movHC => [byteLow (byteMid 0x40 (Reg.code .h)) (Reg.code .c)]
  | .movHD => [byteLow (byteMid 0x40 (Reg.code .h)) (Reg.code .d)]
  | .movHE => [byteLow (byteMid 0x40 (Reg.code .h)) (Reg.code .e)]
  | .movHH => [byteLow (byteMid 0x40 (Reg.code .h)) (Reg.code .h)]
  | .movHL => [byteLow (byteMid 0x40 (Reg.code .h)) (Reg.code .l)]
  | .movHM => [byteLow (byteMid 0x40 (Reg.code .h)) (Slot.code .m)]
  | .movHA => [byteLow (byteMid 0x40 (Reg.code .h)) (Reg.code .a)]
  | .movLB => [byteLow (byteMid 0x40 (Reg.code .l)) (Reg.code .b)]
  | .movLC => [byteLow (byteMid 0x40 (Reg.code .l)) (Reg.code .c)]
  | .movLD => [byteLow (byteMid 0x40 (Reg.code .l)) (Reg.code .d)]
  | .movLE => [byteLow (byteMid 0x40 (Reg.code .l)) (Reg.code .e)]
  | .movLH => [byteLow (byteMid 0x40 (Reg.code .l)) (Reg.code .h)]
  | .movLL => [byteLow (byteMid 0x40 (Reg.code .l)) (Reg.code .l)]
  | .movLM => [byteLow (byteMid 0x40 (Reg.code .l)) (Slot.code .m)]
  | .movLA => [byteLow (byteMid 0x40 (Reg.code .l)) (Reg.code .a)]
  | .movMB => [byteLow (byteMid 0x40 (Slot.code .m)) (Reg.code .b)]
  | .movMC => [byteLow (byteMid 0x40 (Slot.code .m)) (Reg.code .c)]
  | .movMD => [byteLow (byteMid 0x40 (Slot.code .m)) (Reg.code .d)]
  | .movME => [byteLow (byteMid 0x40 (Slot.code .m)) (Reg.code .e)]
  | .movMH => [byteLow (byteMid 0x40 (Slot.code .m)) (Reg.code .h)]
  | .movML => [byteLow (byteMid 0x40 (Slot.code .m)) (Reg.code .l)]
  | .hlt => [0x76]
  | .movMA => [byteLow (byteMid 0x40 (Slot.code .m)) (Reg.code .a)]
  | .movAB => [byteLow (byteMid 0x40 (Reg.code .a)) (Reg.code .b)]
  | .movAC => [byteLow (byteMid 0x40 (Reg.code .a)) (Reg.code .c)]
  | .movAD => [byteLow (byteMid 0x40 (Reg.code .a)) (Reg.code .d)]
  | .movAE => [byteLow (byteMid 0x40 (Reg.code .a)) (Reg.code .e)]
  | .movAH => [byteLow (byteMid 0x40 (Reg.code .a)) (Reg.code .h)]
  | .movAL => [byteLow (byteMid 0x40 (Reg.code .a)) (Reg.code .l)]
  | .movAM => [byteLow (byteMid 0x40 (Reg.code .a)) (Slot.code .m)]
  | .movAA => [byteLow (byteMid 0x40 (Reg.code .a)) (Reg.code .a)]
  | .addB => [byteLow (byteMid 0x80 0) (Reg.code .b)]
  | .addC => [byteLow (byteMid 0x80 0) (Reg.code .c)]
  | .addD => [byteLow (byteMid 0x80 0) (Reg.code .d)]
  | .addE => [byteLow (byteMid 0x80 0) (Reg.code .e)]
  | .addH => [byteLow (byteMid 0x80 0) (Reg.code .h)]
  | .addL => [byteLow (byteMid 0x80 0) (Reg.code .l)]
  | .addM => [byteLow (byteMid 0x80 0) (Slot.code .m)]
  | .addA => [byteLow (byteMid 0x80 0) (Reg.code .a)]
  | .adcB => [byteLow (byteMid 0x80 1) (Reg.code .b)]
  | .adcC => [byteLow (byteMid 0x80 1) (Reg.code .c)]
  | .adcD => [byteLow (byteMid 0x80 1) (Reg.code .d)]
  | .adcE => [byteLow (byteMid 0x80 1) (Reg.code .e)]
  | .adcH => [byteLow (byteMid 0x80 1) (Reg.code .h)]
  | .adcL => [byteLow (byteMid 0x80 1) (Reg.code .l)]
  | .adcM => [byteLow (byteMid 0x80 1) (Slot.code .m)]
  | .adcA => [byteLow (byteMid 0x80 1) (Reg.code .a)]
  | .subB => [byteLow (byteMid 0x80 2) (Reg.code .b)]
  | .subC => [byteLow (byteMid 0x80 2) (Reg.code .c)]
  | .subD => [byteLow (byteMid 0x80 2) (Reg.code .d)]
  | .subE => [byteLow (byteMid 0x80 2) (Reg.code .e)]
  | .subH => [byteLow (byteMid 0x80 2) (Reg.code .h)]
  | .subL => [byteLow (byteMid 0x80 2) (Reg.code .l)]
  | .subM => [byteLow (byteMid 0x80 2) (Slot.code .m)]
  | .subA => [byteLow (byteMid 0x80 2) (Reg.code .a)]
  | .sbbB => [byteLow (byteMid 0x80 3) (Reg.code .b)]
  | .sbbC => [byteLow (byteMid 0x80 3) (Reg.code .c)]
  | .sbbD => [byteLow (byteMid 0x80 3) (Reg.code .d)]
  | .sbbE => [byteLow (byteMid 0x80 3) (Reg.code .e)]
  | .sbbH => [byteLow (byteMid 0x80 3) (Reg.code .h)]
  | .sbbL => [byteLow (byteMid 0x80 3) (Reg.code .l)]
  | .sbbM => [byteLow (byteMid 0x80 3) (Slot.code .m)]
  | .sbbA => [byteLow (byteMid 0x80 3) (Reg.code .a)]
  | .anaB => [byteLow (byteMid 0x80 4) (Reg.code .b)]
  | .anaC => [byteLow (byteMid 0x80 4) (Reg.code .c)]
  | .anaD => [byteLow (byteMid 0x80 4) (Reg.code .d)]
  | .anaE => [byteLow (byteMid 0x80 4) (Reg.code .e)]
  | .anaH => [byteLow (byteMid 0x80 4) (Reg.code .h)]
  | .anaL => [byteLow (byteMid 0x80 4) (Reg.code .l)]
  | .anaM => [byteLow (byteMid 0x80 4) (Slot.code .m)]
  | .anaA => [byteLow (byteMid 0x80 4) (Reg.code .a)]
  | .xraB => [byteLow (byteMid 0x80 5) (Reg.code .b)]
  | .xraC => [byteLow (byteMid 0x80 5) (Reg.code .c)]
  | .xraD => [byteLow (byteMid 0x80 5) (Reg.code .d)]
  | .xraE => [byteLow (byteMid 0x80 5) (Reg.code .e)]
  | .xraH => [byteLow (byteMid 0x80 5) (Reg.code .h)]
  | .xraL => [byteLow (byteMid 0x80 5) (Reg.code .l)]
  | .xraM => [byteLow (byteMid 0x80 5) (Slot.code .m)]
  | .xraA => [byteLow (byteMid 0x80 5) (Reg.code .a)]
  | .oraB => [byteLow (byteMid 0x80 6) (Reg.code .b)]
  | .oraC => [byteLow (byteMid 0x80 6) (Reg.code .c)]
  | .oraD => [byteLow (byteMid 0x80 6) (Reg.code .d)]
  | .oraE => [byteLow (byteMid 0x80 6) (Reg.code .e)]
  | .oraH => [byteLow (byteMid 0x80 6) (Reg.code .h)]
  | .oraL => [byteLow (byteMid 0x80 6) (Reg.code .l)]
  | .oraM => [byteLow (byteMid 0x80 6) (Slot.code .m)]
  | .oraA => [byteLow (byteMid 0x80 6) (Reg.code .a)]
  | .cmpB => [byteLow (byteMid 0x80 7) (Reg.code .b)]
  | .cmpC => [byteLow (byteMid 0x80 7) (Reg.code .c)]
  | .cmpD => [byteLow (byteMid 0x80 7) (Reg.code .d)]
  | .cmpE => [byteLow (byteMid 0x80 7) (Reg.code .e)]
  | .cmpH => [byteLow (byteMid 0x80 7) (Reg.code .h)]
  | .cmpL => [byteLow (byteMid 0x80 7) (Reg.code .l)]
  | .cmpM => [byteLow (byteMid 0x80 7) (Slot.code .m)]
  | .cmpA => [byteLow (byteMid 0x80 7) (Reg.code .a)]
  | .rnz => [byteMid 0xC0 (Cond.code .nz)]
  | .popB => [bytePair 0xC1 (StackPair.code .bc)]
  | .jnz w => withWord (byteMid 0xC2 (Cond.code .nz)) w
  | .jmp w => withWord 0xC3 w
  | .cnz w => withWord (byteMid 0xC4 (Cond.code .nz)) w
  | .pushB => [bytePair 0xC5 (StackPair.code .bc)]
  | .adi d8 => [byteMid 0xC6 0, d8]
  | .rst0 => [byteMid 0xC7 0]
  | .rz => [byteMid 0xC0 (Cond.code .z)]
  | .ret => [0xC9]
  | .jz w => withWord (byteMid 0xC2 (Cond.code .z)) w
  | .cz w => withWord (byteMid 0xC4 (Cond.code .z)) w
  | .call w => withWord 0xCD w
  | .aci d8 => [byteMid 0xC6 1, d8]
  | .rst1 => [byteMid 0xC7 1]
  | .rnc => [byteMid 0xC0 (Cond.code .nc)]
  | .popD => [bytePair 0xC1 (StackPair.code .de)]
  | .jnc w => withWord (byteMid 0xC2 (Cond.code .nc)) w
  | .out d8 => [0xD3, d8]
  | .cnc w => withWord (byteMid 0xC4 (Cond.code .nc)) w
  | .pushD => [bytePair 0xC5 (StackPair.code .de)]
  | .sui d8 => [byteMid 0xC6 2, d8]
  | .rst2 => [byteMid 0xC7 2]
  | .rc => [byteMid 0xC0 (Cond.code .c)]
  | .jc w => withWord (byteMid 0xC2 (Cond.code .c)) w
  | .inp d8 => [0xDB, d8]
  | .cc w => withWord (byteMid 0xC4 (Cond.code .c)) w
  | .sbi d8 => [byteMid 0xC6 3, d8]
  | .rst3 => [byteMid 0xC7 3]
  | .rpo => [byteMid 0xC0 (Cond.code .po)]
  | .popH => [bytePair 0xC1 (StackPair.code .hl)]
  | .jpo w => withWord (byteMid 0xC2 (Cond.code .po)) w
  | .xthl => [0xE3]
  | .cpo w => withWord (byteMid 0xC4 (Cond.code .po)) w
  | .pushH => [bytePair 0xC5 (StackPair.code .hl)]
  | .ani d8 => [byteMid 0xC6 4, d8]
  | .rst4 => [byteMid 0xC7 4]
  | .rpe => [byteMid 0xC0 (Cond.code .pe)]
  | .pchl => [0xE9]
  | .jpe w => withWord (byteMid 0xC2 (Cond.code .pe)) w
  | .xchg => [0xEB]
  | .cpe w => withWord (byteMid 0xC4 (Cond.code .pe)) w
  | .xri d8 => [byteMid 0xC6 5, d8]
  | .rst5 => [byteMid 0xC7 5]
  | .rp => [byteMid 0xC0 (Cond.code .p)]
  | .popPSW => [bytePair 0xC1 (StackPair.code .psw)]
  | .jp w => withWord (byteMid 0xC2 (Cond.code .p)) w
  | .di => [0xF3]
  | .cp w => withWord (byteMid 0xC4 (Cond.code .p)) w
  | .pushPSW => [bytePair 0xC5 (StackPair.code .psw)]
  | .ori d8 => [byteMid 0xC6 6, d8]
  | .rst6 => [byteMid 0xC7 6]
  | .rm => [byteMid 0xC0 (Cond.code .m)]
  | .sphl => [0xF9]
  | .jm w => withWord (byteMid 0xC2 (Cond.code .m)) w
  | .ei => [0xFB]
  | .cm w => withWord (byteMid 0xC4 (Cond.code .m)) w
  | .cpi d8 => [byteMid 0xC6 7, d8]
  | .rst7 => [byteMid 0xC7 7]

end Sys2Proof
end

