-- ==== Sys2Proof/Machine/Cells.lean ====
section
/-!
DEFINITION. Sparse byte arrays: reading an entry, writing one, and the canonical form that makes equal arrays equal lists.
-/
namespace Sys2Proof.Machine

/-- The byte at index `k`; an unlisted index reads 0 (R29). -/
def Cells.get : Cells → Nat → Byte
  | [], _ => 0
  | cell :: rest, k => if cell.1 = k then cell.2 else Cells.get rest k

/-- The array with the entry at `k` removed. -/
def Cells.erase (m : Cells) (k : Nat) : Cells := m.filter fun cell => cell.1 ≠ k

/-- The array with an entry put in its place by index. -/
def Cells.insert : Cells → Nat → Byte → Cells
  | [], k, v => [(k, v)]
  | cell :: rest, k, v => if k < cell.1 then (k, v) :: cell :: rest else cell :: Cells.insert rest k v

/-- The array with the byte at `k` set to `v`; writing 0 unlists the entry. -/
def Cells.set (m : Cells) (k : Nat) (v : Byte) : Cells :=
  if v = 0 then m.erase k else (m.erase k).insert k v

/-- Canonical form of an array of `bound` entries: indices strictly rising and below `bound`, no listed byte 0. -/
abbrev Cells.wf (bound : Nat) (m : Cells) : Prop :=
  m.Pairwise (fun x y => x.1 < y.1) ∧ ∀ cell ∈ m, cell.1 < bound ∧ cell.2 ≠ 0

/-- Canonical form of memory: 65536 cells (R40). -/
abbrev Memory.wf (m : Memory) : Prop := Cells.wf Config.memCells m

/-- Canonical form of a port bank: N_PORTS entries (R26). -/
abbrev Ports.wf (p : Ports) : Prop := Cells.wf Config.nPorts p

end Sys2Proof.Machine
end

