-- ==== Sys2Proof/Machine/Ops.lean ====
section
/-!
DEFINITION. The named operations over memory, PC and the stack: the alias function and the access primitives (R43 to R49),
push and pop (R210, R211), the transfers of control built from them, entering a restart or interrupt vector (R238, R311)
and returning from it (R315), the fatal outcome (R300), fetch (R282) and accounting (R285).
-/
namespace Sys2Proof.Machine

/-! ## Memory -/

/-- `Phys(a)`: the index of the cell a program address selects (R43). -/
def phys (a : Word) : Word :=
  if a < Config.mirrorBase then a else Config.ramBase ||| (a &&& Config.windowMask)

/-- `MEM[k]`, by raw index (R40, R325). -/
def State.cell (s : State) (k : Nat) : Byte := Cells.get s.mem k

/-- `MemRead(addr, 1)` (R46). -/
def State.readByte (s : State) (addr : Word) : Byte := s.cell (phys addr).toNat

/-- `MemRead(addr, 2)`: low byte at `addr`, high byte at `addr + 1` (R47). -/
def State.readWord (s : State) (addr : Word) : Word := joinBytes (s.readByte (addr + 1)) (s.readByte addr)

/-- Put a byte in the cell a program address selects, the write window not asked. -/
def State.pokeByte (s : State) (addr : Word) (v : Byte) : State :=
  { s with mem := Cells.set s.mem (phys addr).toNat v }

/-- `MemWrite(addr, 1, v)`: honoured exactly when `addr >= 0x2000`, else dropped (R44, R48). -/
def State.writeByte (s : State) (addr : Word) (v : Byte) : State :=
  if Config.ramBase ≤ addr then s.pokeByte addr v else s

/-- `MemWrite(addr, 2, v)`: two byte writes, low byte first (R49). -/
def State.writeWord (s : State) (addr : Word) (v : Word) : State :=
  (s.writeByte addr (lowByte v)).writeByte (addr + 1) (highByte v)

/-! ## PC and the stack -/

/-- `PC <- (pc0 + len) mod 65536` (R18 (a)). -/
def State.advance (s : State) (len : Word) : State := { s with pc := s.pc + len }

/-- `Push16(w)`: high byte at SP-1, low byte at SP-2, then SP <- SP-2 (R210). -/
def State.push16 (s : State) (w : Word) : State :=
  let s1 := s.writeByte (s.sp - 1) (highByte w)
  let s2 := s1.writeByte (s.sp - 2) (lowByte w)
  { s2 with sp := s.sp - 2 }

/-- `Pop16()`: the word at SP, and the state with SP <- SP+2 (R211). -/
def State.pop16 (s : State) : Word × State := (s.readWord s.sp, { s with sp := s.sp + 2 })

/-- `PC <- target` (R18 (b)). -/
def State.jumpTo (s : State) (target : Word) : State := { s with pc := target }

/-- Push a return address and go to a target (R234). -/
def State.callTo (s : State) (ret target : Word) : State := (s.push16 ret).jumpTo target

/-- `PC <- Pop16()` (R236): the return from a call, a restart and an interrupt alike (R315). -/
def State.returnFrom (s : State) : State :=
  let (w, s1) := s.pop16
  s1.jumpTo w

/-! ## Vectors, interrupts and the fatal outcome -/

/-- The address of restart and interrupt vector n: `n * 8` (R238, R311). -/
def vectorAddress (n : Fin 8) : Word := BitVec.ofNat 16 (n.val * 8)

/-- Enter a vector, leaving `ret` on the stack: shared by `RST n` and interrupt acceptance (R238, R311). Only PC is saved. -/
def State.enterVector (s : State) (ret : Word) (n : Fin 8) : State := s.callTo ret (vectorAddress n)

/-- `raise_interrupt(vector)` with the parameter `INT_ACK_CLEARS_IE` as an argument: dropped when halted (R313) or when
IE is 0 (R312), else PC is pushed and the vector entered (R311). -/
def State.raiseInterruptWith (clearsIE : Bool) (s : State) (vector : Fin 8) : State :=
  if s.halted then s
  else if s.ie then
    let s1 := s.enterVector s.pc vector
    if clearsIE then { s1 with ie := false } else s1
  else s

/-- `raise_interrupt(vector)` with the model's `INT_ACK_CLEARS_IE` (R311, log entry 3). -/
def State.raiseInterrupt (s : State) (vector : Fin 8) : State := s.raiseInterruptWith intAckClearsIE vector

/-- `raise Fatal(UnknownOpcode(opcode, pc0))`: no state changes (R267, R300, R301). -/
def State.raiseFatal (s : State) (op : Byte) : Result := .fault (.unknownOpcode op s.pc)

/-! ## Fetch and account -/

/-- The opcode byte at PC (R282). -/
def State.fetchOpcode (s : State) : Byte := s.readByte s.pc

/-- The instruction at PC, its operand bytes a snapshot taken before execution (R282, R283). -/
def State.fetchInstr (s : State) : Instr :=
  decode s.fetchOpcode (s.readByte (s.pc + 1)) (s.readByte (s.pc + 2))

/-- Account for one executed instruction under a cost table, both counters modulo 2^64 (R285). -/
def State.accountWith (cost : Byte → Count) (s : State) (op : Byte) : State :=
  { s with cycles := s.cycles + cost op, instrs := s.instrs + 1 }

/-- Account with the model's cost table (R285, R351). -/
def State.account (s : State) (op : Byte) : State := s.accountWith cycleCost op

/-- What the step makes of an executed instruction: a next state is accounted for, anything else is passed on (R280). -/
def accounted (op : Byte) : Result → Result
  | .next s => .next (s.account op)
  | .fault f => .fault f
  | .refused r => .refused r

end Sys2Proof.Machine
end

