-- ==== Sys2Proof/Machine/Operands.lean ====
section
/-!
DEFINITION. Every operand form of R193: registers, the slot M, the pairs, the PSW pair, BC and DE as base registers, ports.
-/
namespace Sys2Proof.Machine

/-- `x[i]` (R7). -/
def State.readReg (s : State) : Reg → Byte
  | .b => s.b | .c => s.c | .d => s.d | .e => s.e | .h => s.h | .l => s.l | .a => s.a

/-- `x[i] <- v` (R7). -/
def State.writeReg (s : State) (r : Reg) (v : Byte) : State :=
  match r with
  | .b => { s with b := v }
  | .c => { s with c := v }
  | .d => { s with d := v }
  | .e => { s with e := v }
  | .h => { s with h := v }
  | .l => { s with l := v }
  | .a => { s with a := v }

/-- `B:C` (R15). -/
def State.bc (s : State) : Word := joinBytes s.b s.c

/-- `D:E` (R15). -/
def State.de (s : State) : Word := joinBytes s.d s.e

/-- `H:L` (R15). -/
def State.hl (s : State) : Word := joinBytes s.h s.l

/-- `BC <- w` (R7). -/
def State.setBC (s : State) (w : Word) : State := { s with b := highByte w, c := lowByte w }

/-- `DE <- w` (R7). -/
def State.setDE (s : State) (w : Word) : State := { s with d := highByte w, e := lowByte w }

/-- `HL <- w` (R7). -/
def State.setHL (s : State) (w : Word) : State := { s with h := highByte w, l := lowByte w }

/-- `Slot(i)`: a register, or the byte at H:L (R13). -/
def State.readSlot (s : State) : Slot → Byte
  | .reg r => s.readReg r
  | .m => s.readByte s.hl

/-- `Slot(i) <- v`; a write to M goes through the write window (R13). -/
def State.writeSlot (s : State) (i : Slot) (v : Byte) : State :=
  match i with
  | .reg r => s.writeReg r v
  | .m => s.writeByte s.hl v

/-- A pair of `LXI INX DCX DAD` (R15). -/
def State.readPair (s : State) : Pair → Word
  | .bc => s.bc | .de => s.de | .hl => s.hl | .sp => s.sp

/-- A pair of `LXI INX DCX` written (R15). -/
def State.writePair (s : State) (p : Pair) (w : Word) : State :=
  match p with
  | .bc => s.setBC w
  | .de => s.setDE w
  | .hl => s.setHL w
  | .sp => { s with sp := w }

/-- The base address of `LDAX STAX` (R190, R191). -/
def State.readBase (s : State) : BasePair → Word
  | .bc => s.bc | .de => s.de

/-- A pair of `PUSH`; PSW is A and the flag byte, A the high-order byte (R212). -/
def State.readStackPair (s : State) : StackPair → Word
  | .bc => s.bc
  | .de => s.de
  | .hl => s.hl
  | .psw => joinBytes s.a s.flags.toByte

/-- A pair of `POP` (R215, R216). -/
def State.writeStackPair (s : State) (p : StackPair) (w : Word) : State :=
  match p with
  | .bc => s.setBC w
  | .de => s.setDE w
  | .hl => s.setHL w
  | .psw => { s with a := highByte w, flags := Flags.ofByte (lowByte w) }

/-- `IN_PORT[p]` (R26). -/
def State.readInPort (s : State) (p : Byte) : Byte := Cells.get s.inPort p.toNat

/-- `IN_PORT[p] <- v`, done by the host (R324) or a hook (R266). -/
def State.writeInPort (s : State) (p v : Byte) : State := { s with inPort := Cells.set s.inPort p.toNat v }

/-- `OUT_PORT[p]` (R26). -/
def State.readOutPort (s : State) (p : Byte) : Byte := Cells.get s.outPort p.toNat

/-- `OUT_PORT[p] <- v`, done by `OUT` (R265). -/
def State.writeOutPort (s : State) (p v : Byte) : State := { s with outPort := Cells.set s.outPort p.toNat v }

end Sys2Proof.Machine
end

