-- ==== Sys2Proof/Machine/Arithmetic.lean ====
section
/-!
DEFINITION. The arithmetic group (41_arithmetic.md, R120 to R135): the shared forms, then one meaning per table row.
-/
namespace Sys2Proof.Machine

/-- Put a result byte in A and its flags in the flags; PC advances by `len`. -/
def State.setAcc (s : State) (r : Byte × Flags) (len : Word) : State :=
  ({ s with a := r.1, flags := r.2 } : State).advance len

/-- `A <- Add8(A, v, 0)` (R120, R122). -/
def State.addAcc (s : State) (v : Byte) (len : Word) : State := s.setAcc (add8 s.a v false s.flags) len

/-- `A <- Add8(A, v, CY)`, the old carry sampled first (R121, R123). -/
def State.adcAcc (s : State) (v : Byte) (len : Word) : State := s.setAcc (add8 s.a v s.flags.cy s.flags) len

/-- `A <- Sub8(A, v, 0)` (R124, R126). -/
def State.subAcc (s : State) (v : Byte) (len : Word) : State := s.setAcc (sub8 s.a v false s.flags) len

/-- `A <- Sub8(A, v, CY)`, the old carry sampled first (R125, R127). -/
def State.sbbAcc (s : State) (v : Byte) (len : Word) : State := s.setAcc (sub8 s.a v s.flags.cy s.flags) len

/-- `Sub8(A, v, 0)` for the flags only; A is not written (R128, R129). -/
def State.cmpAcc (s : State) (v : Byte) (len : Word) : State :=
  ({ s with flags := (sub8 s.a v false s.flags).2 } : State).advance len

/-- Increment a slot in place; a dropped store to M still writes the flags (R130). -/
def State.incSlot (s : State) (i : Slot) : State :=
  let r := inc8 (s.readSlot i) s.flags
  (({ s with flags := r.2 } : State).writeSlot i r.1).advance 1

/-- Decrement a slot in place (R131). -/
def State.decSlot (s : State) (i : Slot) : State :=
  let r := dec8 (s.readSlot i) s.flags
  (({ s with flags := r.2 } : State).writeSlot i r.1).advance 1

/-- `rp <- (rp + 1) mod 65536`, no flag (R132). -/
def State.incPair (s : State) (p : Pair) : State := (s.writePair p (s.readPair p + 1)).advance 1

/-- `rp <- (rp - 1) mod 65536`, no flag (R133). -/
def State.decPair (s : State) (p : Pair) : State := (s.writePair p (s.readPair p - 1)).advance 1

/-- `HL <- HL + rp`, CY the carry out of bit 15, no other flag (R134). -/
def State.addPairToHL (s : State) (p : Pair) : State :=
  let t := s.hl.toNat + (s.readPair p).toNat
  (({ s with flags := { s.flags with cy := decide (t > 0xFFFF) } } : State).setHL (BitVec.ofNat 16 t)).advance 1

/-! ## The meanings -/

/-- `INX B` (R132). -/
def execInxB (s : State) : Result := .next (s.incPair .bc)

/-- `INR B` (R130). -/
def execInrB (s : State) : Result := .next (s.incSlot (.reg .b))

/-- `DCR B` (R131). -/
def execDcrB (s : State) : Result := .next (s.decSlot (.reg .b))

/-- `DAD B` (R134). -/
def execDadB (s : State) : Result := .next (s.addPairToHL .bc)

/-- `DCX B` (R133). -/
def execDcxB (s : State) : Result := .next (s.decPair .bc)

/-- `INR C` (R130). -/
def execInrC (s : State) : Result := .next (s.incSlot (.reg .c))

/-- `DCR C` (R131). -/
def execDcrC (s : State) : Result := .next (s.decSlot (.reg .c))

/-- `INX D` (R132). -/
def execInxD (s : State) : Result := .next (s.incPair .de)

/-- `INR D` (R130). -/
def execInrD (s : State) : Result := .next (s.incSlot (.reg .d))

/-- `DCR D` (R131). -/
def execDcrD (s : State) : Result := .next (s.decSlot (.reg .d))

/-- `DAD D` (R134). -/
def execDadD (s : State) : Result := .next (s.addPairToHL .de)

/-- `DCX D` (R133). -/
def execDcxD (s : State) : Result := .next (s.decPair .de)

/-- `INR E` (R130). -/
def execInrE (s : State) : Result := .next (s.incSlot (.reg .e))

/-- `DCR E` (R131). -/
def execDcrE (s : State) : Result := .next (s.decSlot (.reg .e))

/-- `INX H` (R132). -/
def execInxH (s : State) : Result := .next (s.incPair .hl)

/-- `INR H` (R130). -/
def execInrH (s : State) : Result := .next (s.incSlot (.reg .h))

/-- `DCR H` (R131). -/
def execDcrH (s : State) : Result := .next (s.decSlot (.reg .h))

/-- `DAA` (R135). -/
def execDaa (s : State) : Result := .next (s.setAcc (daa8 s.a s.flags) 1)

/-- `DAD H` (R134). -/
def execDadH (s : State) : Result := .next (s.addPairToHL .hl)

/-- `DCX H` (R133). -/
def execDcxH (s : State) : Result := .next (s.decPair .hl)

/-- `INR L` (R130). -/
def execInrL (s : State) : Result := .next (s.incSlot (.reg .l))

/-- `DCR L` (R131). -/
def execDcrL (s : State) : Result := .next (s.decSlot (.reg .l))

/-- `INX SP` (R132). -/
def execInxSP (s : State) : Result := .next (s.incPair .sp)

/-- `INR M` (R130). -/
def execInrM (s : State) : Result := .next (s.incSlot .m)

/-- `DCR M` (R131). -/
def execDcrM (s : State) : Result := .next (s.decSlot .m)

/-- `DAD SP` (R134). -/
def execDadSP (s : State) : Result := .next (s.addPairToHL .sp)

/-- `DCX SP` (R133). -/
def execDcxSP (s : State) : Result := .next (s.decPair .sp)

/-- `INR A` (R130). -/
def execInrA (s : State) : Result := .next (s.incSlot (.reg .a))

/-- `DCR A` (R131). -/
def execDcrA (s : State) : Result := .next (s.decSlot (.reg .a))

/-- `ADD B` (R120). -/
def execAddB (s : State) : Result := .next (s.addAcc (s.readSlot (.reg .b)) 1)

/-- `ADD C` (R120). -/
def execAddC (s : State) : Result := .next (s.addAcc (s.readSlot (.reg .c)) 1)

/-- `ADD D` (R120). -/
def execAddD (s : State) : Result := .next (s.addAcc (s.readSlot (.reg .d)) 1)

/-- `ADD E` (R120). -/
def execAddE (s : State) : Result := .next (s.addAcc (s.readSlot (.reg .e)) 1)

/-- `ADD H` (R120). -/
def execAddH (s : State) : Result := .next (s.addAcc (s.readSlot (.reg .h)) 1)

/-- `ADD L` (R120). -/
def execAddL (s : State) : Result := .next (s.addAcc (s.readSlot (.reg .l)) 1)

/-- `ADD M` (R120). -/
def execAddM (s : State) : Result := .next (s.addAcc (s.readSlot .m) 1)

/-- `ADD A` (R120). -/
def execAddA (s : State) : Result := .next (s.addAcc (s.readSlot (.reg .a)) 1)

/-- `ADC B` (R121). -/
def execAdcB (s : State) : Result := .next (s.adcAcc (s.readSlot (.reg .b)) 1)

/-- `ADC C` (R121). -/
def execAdcC (s : State) : Result := .next (s.adcAcc (s.readSlot (.reg .c)) 1)

/-- `ADC D` (R121). -/
def execAdcD (s : State) : Result := .next (s.adcAcc (s.readSlot (.reg .d)) 1)

/-- `ADC E` (R121). -/
def execAdcE (s : State) : Result := .next (s.adcAcc (s.readSlot (.reg .e)) 1)

/-- `ADC H` (R121). -/
def execAdcH (s : State) : Result := .next (s.adcAcc (s.readSlot (.reg .h)) 1)

/-- `ADC L` (R121). -/
def execAdcL (s : State) : Result := .next (s.adcAcc (s.readSlot (.reg .l)) 1)

/-- `ADC M` (R121). -/
def execAdcM (s : State) : Result := .next (s.adcAcc (s.readSlot .m) 1)

/-- `ADC A` (R121). -/
def execAdcA (s : State) : Result := .next (s.adcAcc (s.readSlot (.reg .a)) 1)

/-- `SUB B` (R124). -/
def execSubB (s : State) : Result := .next (s.subAcc (s.readSlot (.reg .b)) 1)

/-- `SUB C` (R124). -/
def execSubC (s : State) : Result := .next (s.subAcc (s.readSlot (.reg .c)) 1)

/-- `SUB D` (R124). -/
def execSubD (s : State) : Result := .next (s.subAcc (s.readSlot (.reg .d)) 1)

/-- `SUB E` (R124). -/
def execSubE (s : State) : Result := .next (s.subAcc (s.readSlot (.reg .e)) 1)

/-- `SUB H` (R124). -/
def execSubH (s : State) : Result := .next (s.subAcc (s.readSlot (.reg .h)) 1)

/-- `SUB L` (R124). -/
def execSubL (s : State) : Result := .next (s.subAcc (s.readSlot (.reg .l)) 1)

/-- `SUB M` (R124). -/
def execSubM (s : State) : Result := .next (s.subAcc (s.readSlot .m) 1)

/-- `SUB A` (R124). -/
def execSubA (s : State) : Result := .next (s.subAcc (s.readSlot (.reg .a)) 1)

/-- `SBB B` (R125). -/
def execSbbB (s : State) : Result := .next (s.sbbAcc (s.readSlot (.reg .b)) 1)

/-- `SBB C` (R125). -/
def execSbbC (s : State) : Result := .next (s.sbbAcc (s.readSlot (.reg .c)) 1)

/-- `SBB D` (R125). -/
def execSbbD (s : State) : Result := .next (s.sbbAcc (s.readSlot (.reg .d)) 1)

/-- `SBB E` (R125). -/
def execSbbE (s : State) : Result := .next (s.sbbAcc (s.readSlot (.reg .e)) 1)

/-- `SBB H` (R125). -/
def execSbbH (s : State) : Result := .next (s.sbbAcc (s.readSlot (.reg .h)) 1)

/-- `SBB L` (R125). -/
def execSbbL (s : State) : Result := .next (s.sbbAcc (s.readSlot (.reg .l)) 1)

/-- `SBB M` (R125). -/
def execSbbM (s : State) : Result := .next (s.sbbAcc (s.readSlot .m) 1)

/-- `SBB A` (R125). -/
def execSbbA (s : State) : Result := .next (s.sbbAcc (s.readSlot (.reg .a)) 1)

/-- `CMP B` (R128). -/
def execCmpB (s : State) : Result := .next (s.cmpAcc (s.readSlot (.reg .b)) 1)

/-- `CMP C` (R128). -/
def execCmpC (s : State) : Result := .next (s.cmpAcc (s.readSlot (.reg .c)) 1)

/-- `CMP D` (R128). -/
def execCmpD (s : State) : Result := .next (s.cmpAcc (s.readSlot (.reg .d)) 1)

/-- `CMP E` (R128). -/
def execCmpE (s : State) : Result := .next (s.cmpAcc (s.readSlot (.reg .e)) 1)

/-- `CMP H` (R128). -/
def execCmpH (s : State) : Result := .next (s.cmpAcc (s.readSlot (.reg .h)) 1)

/-- `CMP L` (R128). -/
def execCmpL (s : State) : Result := .next (s.cmpAcc (s.readSlot (.reg .l)) 1)

/-- `CMP M` (R128). -/
def execCmpM (s : State) : Result := .next (s.cmpAcc (s.readSlot .m) 1)

/-- `CMP A` (R128). -/
def execCmpA (s : State) : Result := .next (s.cmpAcc (s.readSlot (.reg .a)) 1)

/-- `ADI d8` (R122). -/
def execAdi (d8 : Byte) (s : State) : Result := .next (s.addAcc d8 2)

/-- `ACI d8` (R123). -/
def execAci (d8 : Byte) (s : State) : Result := .next (s.adcAcc d8 2)

/-- `SUI d8` (R126). -/
def execSui (d8 : Byte) (s : State) : Result := .next (s.subAcc d8 2)

/-- `SBI d8` (R127). -/
def execSbi (d8 : Byte) (s : State) : Result := .next (s.sbbAcc d8 2)

/-- `CPI d8` (R129). -/
def execCpi (d8 : Byte) (s : State) : Result := .next (s.cmpAcc d8 2)

end Sys2Proof.Machine
end

