-- ==== Sys2Proof/Machine/Branch.lean ====
section
/-!
DEFINITION. The control transfer group (45_branch.md, R232 to R239). No instruction of this file writes a flag.
-/
namespace Sys2Proof.Machine

/-- `Jccc`: to the target, or past the three bytes (R233). -/
def State.jumpIf (s : State) (cond : Cond) (w : Word) : State := if condHolds cond s.flags then s.jumpTo w else s.advance 3

/-- `Cccc`: a call, or past the three bytes with no push (R235). -/
def State.callIf (s : State) (cond : Cond) (w : Word) : State :=
  if condHolds cond s.flags then s.callTo (s.pc + 3) w else s.advance 3

/-- `Rccc`: a return, or past the one byte with no pop (R237). -/
def State.returnIf (s : State) (cond : Cond) : State := if condHolds cond s.flags then s.returnFrom else s.advance 1

/-! ## The meanings -/

/-- `RNZ` (R237). -/
def execRnz (s : State) : Result := .next (s.returnIf .nz)

/-- `JNZ a16` (R233). -/
def execJnz (w : Word) (s : State) : Result := .next (s.jumpIf .nz w)

/-- `JMP a16` (R232). -/
def execJmp (w : Word) (s : State) : Result := .next (s.jumpTo w)

/-- `CNZ a16` (R235). -/
def execCnz (w : Word) (s : State) : Result := .next (s.callIf .nz w)

/-- `RST 0` (R238). -/
def execRst0 (s : State) : Result := .next (s.enterVector (s.pc + 1) 0)

/-- `RZ` (R237). -/
def execRz (s : State) : Result := .next (s.returnIf .z)

/-- `RET` (R236). -/
def execRet (s : State) : Result := .next (s.returnFrom)

/-- `JZ a16` (R233). -/
def execJz (w : Word) (s : State) : Result := .next (s.jumpIf .z w)

/-- `CZ a16` (R235). -/
def execCz (w : Word) (s : State) : Result := .next (s.callIf .z w)

/-- `CALL a16` (R234). -/
def execCall (w : Word) (s : State) : Result := .next (s.callTo (s.pc + 3) w)

/-- `RST 1` (R238). -/
def execRst1 (s : State) : Result := .next (s.enterVector (s.pc + 1) 1)

/-- `RNC` (R237). -/
def execRnc (s : State) : Result := .next (s.returnIf .nc)

/-- `JNC a16` (R233). -/
def execJnc (w : Word) (s : State) : Result := .next (s.jumpIf .nc w)

/-- `CNC a16` (R235). -/
def execCnc (w : Word) (s : State) : Result := .next (s.callIf .nc w)

/-- `RST 2` (R238). -/
def execRst2 (s : State) : Result := .next (s.enterVector (s.pc + 1) 2)

/-- `RC` (R237). -/
def execRc (s : State) : Result := .next (s.returnIf .c)

/-- `JC a16` (R233). -/
def execJc (w : Word) (s : State) : Result := .next (s.jumpIf .c w)

/-- `CC a16` (R235). -/
def execCc (w : Word) (s : State) : Result := .next (s.callIf .c w)

/-- `RST 3` (R238). -/
def execRst3 (s : State) : Result := .next (s.enterVector (s.pc + 1) 3)

/-- `RPO` (R237). -/
def execRpo (s : State) : Result := .next (s.returnIf .po)

/-- `JPO a16` (R233). -/
def execJpo (w : Word) (s : State) : Result := .next (s.jumpIf .po w)

/-- `CPO a16` (R235). -/
def execCpo (w : Word) (s : State) : Result := .next (s.callIf .po w)

/-- `RST 4` (R238). -/
def execRst4 (s : State) : Result := .next (s.enterVector (s.pc + 1) 4)

/-- `RPE` (R237). -/
def execRpe (s : State) : Result := .next (s.returnIf .pe)

/-- `PCHL` (R239). -/
def execPchl (s : State) : Result := .next (s.jumpTo s.hl)

/-- `JPE a16` (R233). -/
def execJpe (w : Word) (s : State) : Result := .next (s.jumpIf .pe w)

/-- `CPE a16` (R235). -/
def execCpe (w : Word) (s : State) : Result := .next (s.callIf .pe w)

/-- `RST 5` (R238). -/
def execRst5 (s : State) : Result := .next (s.enterVector (s.pc + 1) 5)

/-- `RP` (R237). -/
def execRp (s : State) : Result := .next (s.returnIf .p)

/-- `JP a16` (R233). -/
def execJp (w : Word) (s : State) : Result := .next (s.jumpIf .p w)

/-- `CP a16` (R235). -/
def execCp (w : Word) (s : State) : Result := .next (s.callIf .p w)

/-- `RST 6` (R238). -/
def execRst6 (s : State) : Result := .next (s.enterVector (s.pc + 1) 6)

/-- `RM` (R237). -/
def execRm (s : State) : Result := .next (s.returnIf .m)

/-- `JM a16` (R233). -/
def execJm (w : Word) (s : State) : Result := .next (s.jumpIf .m w)

/-- `CM a16` (R235). -/
def execCm (w : Word) (s : State) : Result := .next (s.callIf .m w)

/-- `RST 7` (R238). -/
def execRst7 (s : State) : Result := .next (s.enterVector (s.pc + 1) 7)

end Sys2Proof.Machine
end

