-- ==== Sys2Proof/Machine/Control.lean ====
section
/-!
DEFINITION. The machine control and input/output group (46_control_io.md, R260 to R265) and the unassigned bytes (R267).
-/
namespace Sys2Proof.Machine

/-- `IN d8` with the answer of the host's `HostIn(d8)` hook: it may rewrite `IN_PORT[d8]`, and A is then loaded from it
(R264, R266). -/
def State.inputWith (s : State) (answer : Option Byte) (port : Byte) : State :=
  let s1 := match answer with
    | none => s
    | some v => s.writeInPort port v
  ({ s1 with a := s1.readInPort port } : State).advance 2

/-- `OUT d8` with the writes to `IN_PORT` that the host's `HostOut(d8, A)` hook makes after A is staged (R265, R266). -/
def State.outputWith (s : State) (writes : List (Byte × Byte)) (port : Byte) : State :=
  let s1 := s.writeOutPort port s.a
  (writes.foldl (fun t pv => t.writeInPort pv.1 pv.2) s1).advance 2

/-! ## The meanings; `IN` and `OUT` without hooks, as R266 lets a model take them (log entry 4) -/

/-- `NOP` (R260). -/
def execNop (s : State) : Result := .next (s.advance 1)

/-- An unassigned opcode byte: the fatal outcome, no state change (R267). -/
def execUnassigned (op : Byte) (s : State) : Result := s.raiseFatal op

/-- `HLT` (R261). -/
def execHlt (s : State) : Result := .next (({ s with halted := true } : State).advance 1)

/-- `OUT d8` (R265). -/
def execOut (d8 : Byte) (s : State) : Result := .next (s.outputWith [] d8)

/-- `IN d8` (R264). -/
def execInp (d8 : Byte) (s : State) : Result := .next (s.inputWith none d8)

/-- `DI` (R263). -/
def execDi (s : State) : Result := .next (({ s with ie := false } : State).advance 1)

/-- `EI` (R262). -/
def execEi (s : State) : Result := .next (({ s with ie := true } : State).advance 1)

end Sys2Proof.Machine
end

