-- ==== Sys2Proof/Machine/Logical.lean ====
section
/-!
DEFINITION. The logical, complement, carry and rotate group (42_logical_rotate.md, R150 to R163).
-/
namespace Sys2Proof.Machine

/-- `A <- Logic8(op, A, v)` (R150 to R155). -/
def State.logicAcc (s : State) (op : LogicOp) (v : Byte) (len : Word) : State := s.setAcc (logic8 op s.a v s.flags) len

/-- `CY <- v`, no other flag (R157, R158). -/
def State.setCarry (s : State) (v : Bool) : State := ({ s with flags := { s.flags with cy := v } } : State).advance 1

/-- Put a rotated byte in A and the bit rotated out in CY, no other flag (R160 to R163). -/
def State.rotateAcc (s : State) (r : Byte × Bool) : State := ({ s with a := r.1 } : State).setCarry r.2

/-! ## The meanings -/

/-- `RLC` (R160). -/
def execRlc (s : State) : Result := .next (s.rotateAcc (rotLeft s.a))

/-- `RRC` (R161). -/
def execRrc (s : State) : Result := .next (s.rotateAcc (rotRight s.a))

/-- `RAL` (R162). -/
def execRal (s : State) : Result := .next (s.rotateAcc (rotLeftCarry s.a s.flags.cy))

/-- `RAR` (R163). -/
def execRar (s : State) : Result := .next (s.rotateAcc (rotRightCarry s.a s.flags.cy))

/-- `CMA` (R156). -/
def execCma (s : State) : Result := .next (({ s with a := ~~~s.a } : State).advance 1)

/-- `STC` (R157). -/
def execStc (s : State) : Result := .next (s.setCarry true)

/-- `CMC` (R158). -/
def execCmc (s : State) : Result := .next (s.setCarry (!s.flags.cy))

/-- `ANA B` (R150). -/
def execAnaB (s : State) : Result := .next (s.logicAcc .and (s.readSlot (.reg .b)) 1)

/-- `ANA C` (R150). -/
def execAnaC (s : State) : Result := .next (s.logicAcc .and (s.readSlot (.reg .c)) 1)

/-- `ANA D` (R150). -/
def execAnaD (s : State) : Result := .next (s.logicAcc .and (s.readSlot (.reg .d)) 1)

/-- `ANA E` (R150). -/
def execAnaE (s : State) : Result := .next (s.logicAcc .and (s.readSlot (.reg .e)) 1)

/-- `ANA H` (R150). -/
def execAnaH (s : State) : Result := .next (s.logicAcc .and (s.readSlot (.reg .h)) 1)

/-- `ANA L` (R150). -/
def execAnaL (s : State) : Result := .next (s.logicAcc .and (s.readSlot (.reg .l)) 1)

/-- `ANA M` (R150). -/
def execAnaM (s : State) : Result := .next (s.logicAcc .and (s.readSlot .m) 1)

/-- `ANA A` (R150). -/
def execAnaA (s : State) : Result := .next (s.logicAcc .and (s.readSlot (.reg .a)) 1)

/-- `XRA B` (R151). -/
def execXraB (s : State) : Result := .next (s.logicAcc .xor (s.readSlot (.reg .b)) 1)

/-- `XRA C` (R151). -/
def execXraC (s : State) : Result := .next (s.logicAcc .xor (s.readSlot (.reg .c)) 1)

/-- `XRA D` (R151). -/
def execXraD (s : State) : Result := .next (s.logicAcc .xor (s.readSlot (.reg .d)) 1)

/-- `XRA E` (R151). -/
def execXraE (s : State) : Result := .next (s.logicAcc .xor (s.readSlot (.reg .e)) 1)

/-- `XRA H` (R151). -/
def execXraH (s : State) : Result := .next (s.logicAcc .xor (s.readSlot (.reg .h)) 1)

/-- `XRA L` (R151). -/
def execXraL (s : State) : Result := .next (s.logicAcc .xor (s.readSlot (.reg .l)) 1)

/-- `XRA M` (R151). -/
def execXraM (s : State) : Result := .next (s.logicAcc .xor (s.readSlot .m) 1)

/-- `XRA A` (R151). -/
def execXraA (s : State) : Result := .next (s.logicAcc .xor (s.readSlot (.reg .a)) 1)

/-- `ORA B` (R152). -/
def execOraB (s : State) : Result := .next (s.logicAcc .or (s.readSlot (.reg .b)) 1)

/-- `ORA C` (R152). -/
def execOraC (s : State) : Result := .next (s.logicAcc .or (s.readSlot (.reg .c)) 1)

/-- `ORA D` (R152). -/
def execOraD (s : State) : Result := .next (s.logicAcc .or (s.readSlot (.reg .d)) 1)

/-- `ORA E` (R152). -/
def execOraE (s : State) : Result := .next (s.logicAcc .or (s.readSlot (.reg .e)) 1)

/-- `ORA H` (R152). -/
def execOraH (s : State) : Result := .next (s.logicAcc .or (s.readSlot (.reg .h)) 1)

/-- `ORA L` (R152). -/
def execOraL (s : State) : Result := .next (s.logicAcc .or (s.readSlot (.reg .l)) 1)

/-- `ORA M` (R152). -/
def execOraM (s : State) : Result := .next (s.logicAcc .or (s.readSlot .m) 1)

/-- `ORA A` (R152). -/
def execOraA (s : State) : Result := .next (s.logicAcc .or (s.readSlot (.reg .a)) 1)

/-- `ANI d8` (R153). -/
def execAni (d8 : Byte) (s : State) : Result := .next (s.logicAcc .and d8 2)

/-- `XRI d8` (R154). -/
def execXri (d8 : Byte) (s : State) : Result := .next (s.logicAcc .xor d8 2)

/-- `ORI d8` (R155). -/
def execOri (d8 : Byte) (s : State) : Result := .next (s.logicAcc .or d8 2)

end Sys2Proof.Machine
end

