-- ==== Sys2Proof/Machine/Stack.lean ====
section
/-!
DEFINITION. The stack group (44_stack.md, R213 to R218), over the primitives of R210 and R211.
-/
namespace Sys2Proof.Machine

/-- `Push16` of a pair (R213, R214). -/
def State.pushPair (s : State) (p : StackPair) : State := (s.push16 (s.readStackPair p)).advance 1

/-- `Pop16` into a pair (R215, R216). -/
def State.popPair (s : State) (p : StackPair) : State :=
  let (w, s1) := s.pop16
  (s1.writeStackPair p w).advance 1

/-- Swap HL with the word at the top of the stack: both reads, then both writes, SP unchanged (R217). -/
def State.exchangeTop (s : State) : State :=
  let w := s.readWord s.sp
  ((s.writeWord s.sp s.hl).setHL w).advance 1

/-! ## The meanings -/

/-- `POP B` (R216). -/
def execPopB (s : State) : Result := .next (s.popPair .bc)

/-- `PUSH B` (R213). -/
def execPushB (s : State) : Result := .next (s.pushPair .bc)

/-- `POP D` (R216). -/
def execPopD (s : State) : Result := .next (s.popPair .de)

/-- `PUSH D` (R213). -/
def execPushD (s : State) : Result := .next (s.pushPair .de)

/-- `POP H` (R216). -/
def execPopH (s : State) : Result := .next (s.popPair .hl)

/-- `XTHL` (R217). -/
def execXthl (s : State) : Result := .next (s.exchangeTop)

/-- `PUSH H` (R213). -/
def execPushH (s : State) : Result := .next (s.pushPair .hl)

/-- `POP PSW` (R215). -/
def execPopPSW (s : State) : Result := .next (s.popPair .psw)

/-- `PUSH PSW` (R214). -/
def execPushPSW (s : State) : Result := .next (s.pushPair .psw)

/-- `SPHL` (R218). -/
def execSphl (s : State) : Result := .next (({ s with sp := s.hl } : State).advance 1)

end Sys2Proof.Machine
end

