-- ==== Sys2Proof/Machine/Transfer.lean ====
section
/-!
DEFINITION. The data transfer group (43_data_transfer.md, R180 to R192). No instruction of this file writes a flag.
-/
namespace Sys2Proof.Machine

/-- `x[ddd] <- x[sss]` (R180). -/
def State.moveReg (s : State) (dst src : Reg) : State := (s.writeReg dst (s.readReg src)).advance 1

/-- `x[ddd] <- MemRead(H:L, 1)` (R181). -/
def State.loadReg (s : State) (dst : Reg) : State := (s.writeReg dst (s.readSlot .m)).advance 1

/-- `MemWrite(H:L, 1, x[sss])` (R182). -/
def State.storeReg (s : State) (src : Reg) : State := (s.writeSlot .m (s.readReg src)).advance 1

/-- `Slot(ddd) <- d8` (R183, R184). -/
def State.moveImm (s : State) (dst : Slot) (d8 : Byte) : State := (s.writeSlot dst d8).advance 2

/-- `rp <- d16` (R185). -/
def State.loadPairImm (s : State) (p : Pair) (w : Word) : State := (s.writePair p w).advance 3

/-- `A <- MemRead(addr, 1)` (R186, R190). -/
def State.loadAcc (s : State) (addr len : Word) : State := ({ s with a := s.readByte addr } : State).advance len

/-- `MemWrite(addr, 1, A)` (R187, R191). -/
def State.storeAcc (s : State) (addr len : Word) : State := (s.writeByte addr s.a).advance len

/-- `HL <- MemRead(a16, 2)` (R188). -/
def State.loadHL (s : State) (addr : Word) : State := (s.setHL (s.readWord addr)).advance 3

/-- `MemWrite(a16, 2, H:L)` (R189). -/
def State.storeHL (s : State) (addr : Word) : State := (s.writeWord addr s.hl).advance 3

/-- Swap HL and DE (R192). -/
def State.exchangeDE (s : State) : State := ({ s with h := s.d, d := s.h, l := s.e, e := s.l } : State).advance 1

/-! ## The meanings -/

/-- `LXI B,d16` (R185). -/
def execLxiB (w : Word) (s : State) : Result := .next (s.loadPairImm .bc w)

/-- `STAX B` (R191). -/
def execStaxB (s : State) : Result := .next (s.storeAcc (s.readBase .bc) 1)

/-- `MVI B,d8` (R183). -/
def execMviB (d8 : Byte) (s : State) : Result := .next (s.moveImm (.reg .b) d8)

/-- `LDAX B` (R190). -/
def execLdaxB (s : State) : Result := .next (s.loadAcc (s.readBase .bc) 1)

/-- `MVI C,d8` (R183). -/
def execMviC (d8 : Byte) (s : State) : Result := .next (s.moveImm (.reg .c) d8)

/-- `LXI D,d16` (R185). -/
def execLxiD (w : Word) (s : State) : Result := .next (s.loadPairImm .de w)

/-- `STAX D` (R191). -/
def execStaxD (s : State) : Result := .next (s.storeAcc (s.readBase .de) 1)

/-- `MVI D,d8` (R183). -/
def execMviD (d8 : Byte) (s : State) : Result := .next (s.moveImm (.reg .d) d8)

/-- `LDAX D` (R190). -/
def execLdaxD (s : State) : Result := .next (s.loadAcc (s.readBase .de) 1)

/-- `MVI E,d8` (R183). -/
def execMviE (d8 : Byte) (s : State) : Result := .next (s.moveImm (.reg .e) d8)

/-- `LXI H,d16` (R185). -/
def execLxiH (w : Word) (s : State) : Result := .next (s.loadPairImm .hl w)

/-- `SHLD a16` (R189). -/
def execShld (w : Word) (s : State) : Result := .next (s.storeHL w)

/-- `MVI H,d8` (R183). -/
def execMviH (d8 : Byte) (s : State) : Result := .next (s.moveImm (.reg .h) d8)

/-- `LHLD a16` (R188). -/
def execLhld (w : Word) (s : State) : Result := .next (s.loadHL w)

/-- `MVI L,d8` (R183). -/
def execMviL (d8 : Byte) (s : State) : Result := .next (s.moveImm (.reg .l) d8)

/-- `LXI SP,d16` (R185). -/
def execLxiSP (w : Word) (s : State) : Result := .next (s.loadPairImm .sp w)

/-- `STA a16` (R187). -/
def execSta (w : Word) (s : State) : Result := .next (s.storeAcc w 3)

/-- `MVI M,d8` (R184). -/
def execMviM (d8 : Byte) (s : State) : Result := .next (s.moveImm .m d8)

/-- `LDA a16` (R186). -/
def execLda (w : Word) (s : State) : Result := .next (s.loadAcc w 3)

/-- `MVI A,d8` (R183). -/
def execMviA (d8 : Byte) (s : State) : Result := .next (s.moveImm (.reg .a) d8)

/-- `MOV B,B` (R180). -/
def execMovBB (s : State) : Result := .next (s.moveReg .b .b)

/-- `MOV B,C` (R180). -/
def execMovBC (s : State) : Result := .next (s.moveReg .b .c)

/-- `MOV B,D` (R180). -/
def execMovBD (s : State) : Result := .next (s.moveReg .b .d)

/-- `MOV B,E` (R180). -/
def execMovBE (s : State) : Result := .next (s.moveReg .b .e)

/-- `MOV B,H` (R180). -/
def execMovBH (s : State) : Result := .next (s.moveReg .b .h)

/-- `MOV B,L` (R180). -/
def execMovBL (s : State) : Result := .next (s.moveReg .b .l)

/-- `MOV B,M` (R181). -/
def execMovBM (s : State) : Result := .next (s.loadReg .b)

/-- `MOV B,A` (R180). -/
def execMovBA (s : State) : Result := .next (s.moveReg .b .a)

/-- `MOV C,B` (R180). -/
def execMovCB (s : State) : Result := .next (s.moveReg .c .b)

/-- `MOV C,C` (R180). -/
def execMovCC (s : State) : Result := .next (s.moveReg .c .c)

/-- `MOV C,D` (R180). -/
def execMovCD (s : State) : Result := .next (s.moveReg .c .d)

/-- `MOV C,E` (R180). -/
def execMovCE (s : State) : Result := .next (s.moveReg .c .e)

/-- `MOV C,H` (R180). -/
def execMovCH (s : State) : Result := .next (s.moveReg .c .h)

/-- `MOV C,L` (R180). -/
def execMovCL (s : State) : Result := .next (s.moveReg .c .l)

/-- `MOV C,M` (R181). -/
def execMovCM (s : State) : Result := .next (s.loadReg .c)

/-- `MOV C,A` (R180). -/
def execMovCA (s : State) : Result := .next (s.moveReg .c .a)

/-- `MOV D,B` (R180). -/
def execMovDB (s : State) : Result := .next (s.moveReg .d .b)

/-- `MOV D,C` (R180). -/
def execMovDC (s : State) : Result := .next (s.moveReg .d .c)

/-- `MOV D,D` (R180). -/
def execMovDD (s : State) : Result := .next (s.moveReg .d .d)

/-- `MOV D,E` (R180). -/
def execMovDE (s : State) : Result := .next (s.moveReg .d .e)

/-- `MOV D,H` (R180). -/
def execMovDH (s : State) : Result := .next (s.moveReg .d .h)

/-- `MOV D,L` (R180). -/
def execMovDL (s : State) : Result := .next (s.moveReg .d .l)

/-- `MOV D,M` (R181). -/
def execMovDM (s : State) : Result := .next (s.loadReg .d)

/-- `MOV D,A` (R180). -/
def execMovDA (s : State) : Result := .next (s.moveReg .d .a)

/-- `MOV E,B` (R180). -/
def execMovEB (s : State) : Result := .next (s.moveReg .e .b)

/-- `MOV E,C` (R180). -/
def execMovEC (s : State) : Result := .next (s.moveReg .e .c)

/-- `MOV E,D` (R180). -/
def execMovED (s : State) : Result := .next (s.moveReg .e .d)

/-- `MOV E,E` (R180). -/
def execMovEE (s : State) : Result := .next (s.moveReg .e .e)

/-- `MOV E,H` (R180). -/
def execMovEH (s : State) : Result := .next (s.moveReg .e .h)

/-- `MOV E,L` (R180). -/
def execMovEL (s : State) : Result := .next (s.moveReg .e .l)

/-- `MOV E,M` (R181). -/
def execMovEM (s : State) : Result := .next (s.loadReg .e)

/-- `MOV E,A` (R180). -/
def execMovEA (s : State) : Result := .next (s.moveReg .e .a)

/-- `MOV H,B` (R180). -/
def execMovHB (s : State) : Result := .next (s.moveReg .h .b)

/-- `MOV H,C` (R180). -/
def execMovHC (s : State) : Result := .next (s.moveReg .h .c)

/-- `MOV H,D` (R180). -/
def execMovHD (s : State) : Result := .next (s.moveReg .h .d)

/-- `MOV H,E` (R180). -/
def execMovHE (s : State) : Result := .next (s.moveReg .h .e)

/-- `MOV H,H` (R180). -/
def execMovHH (s : State) : Result := .next (s.moveReg .h .h)

/-- `MOV H,L` (R180). -/
def execMovHL (s : State) : Result := .next (s.moveReg .h .l)

/-- `MOV H,M` (R181). -/
def execMovHM (s : State) : Result := .next (s.loadReg .h)

/-- `MOV H,A` (R180). -/
def execMovHA (s : State) : Result := .next (s.moveReg .h .a)

/-- `MOV L,B` (R180). -/
def execMovLB (s : State) : Result := .next (s.moveReg .l .b)

/-- `MOV L,C` (R180). -/
def execMovLC (s : State) : Result := .next (s.moveReg .l .c)

/-- `MOV L,D` (R180). -/
def execMovLD (s : State) : Result := .next (s.moveReg .l .d)

/-- `MOV L,E` (R180). -/
def execMovLE (s : State) : Result := .next (s.moveReg .l .e)

/-- `MOV L,H` (R180). -/
def execMovLH (s : State) : Result := .next (s.moveReg .l .h)

/-- `MOV L,L` (R180). -/
def execMovLL (s : State) : Result := .next (s.moveReg .l .l)

/-- `MOV L,M` (R181). -/
def execMovLM (s : State) : Result := .next (s.loadReg .l)

/-- `MOV L,A` (R180). -/
def execMovLA (s : State) : Result := .next (s.moveReg .l .a)

/-- `MOV M,B` (R182). -/
def execMovMB (s : State) : Result := .next (s.storeReg .b)

/-- `MOV M,C` (R182). -/
def execMovMC (s : State) : Result := .next (s.storeReg .c)

/-- `MOV M,D` (R182). -/
def execMovMD (s : State) : Result := .next (s.storeReg .d)

/-- `MOV M,E` (R182). -/
def execMovME (s : State) : Result := .next (s.storeReg .e)

/-- `MOV M,H` (R182). -/
def execMovMH (s : State) : Result := .next (s.storeReg .h)

/-- `MOV M,L` (R182). -/
def execMovML (s : State) : Result := .next (s.storeReg .l)

/-- `MOV M,A` (R182). -/
def execMovMA (s : State) : Result := .next (s.storeReg .a)

/-- `MOV A,B` (R180). -/
def execMovAB (s : State) : Result := .next (s.moveReg .a .b)

/-- `MOV A,C` (R180). -/
def execMovAC (s : State) : Result := .next (s.moveReg .a .c)

/-- `MOV A,D` (R180). -/
def execMovAD (s : State) : Result := .next (s.moveReg .a .d)

/-- `MOV A,E` (R180). -/
def execMovAE (s : State) : Result := .next (s.moveReg .a .e)

/-- `MOV A,H` (R180). -/
def execMovAH (s : State) : Result := .next (s.moveReg .a .h)

/-- `MOV A,L` (R180). -/
def execMovAL (s : State) : Result := .next (s.moveReg .a .l)

/-- `MOV A,M` (R181). -/
def execMovAM (s : State) : Result := .next (s.loadReg .a)

/-- `MOV A,A` (R180). -/
def execMovAA (s : State) : Result := .next (s.moveReg .a .a)

/-- `XCHG` (R192). -/
def execXchg (s : State) : Result := .next (s.exchangeDE)

end Sys2Proof.Machine
end

