-- ==== Sys2Proof/Machine/Step.lean ====
section
/-!
DEFINITION. One step (R280), and the placing of an instruction where the next step fetches it.
-/
namespace Sys2Proof.Machine

/-- `step()`: a halted core changes nothing (R281); otherwise fetch, decode, execute, account (R280). The outcome `halted`
is a next state with HALTED set, `fatal(reason)` is the fault (R286, log entry 5). -/
def step (s : State) : Host.Outcome State Fault Refusal :=
  if s.halted then .next s else accounted s.fetchOpcode (exec s.fetchInstr s)

/-- `s` with an instruction's bytes in the three cells the next step fetches from, and running (log entry 7): bits 7..0 of
`w` are the opcode byte, each operand byte follows upward, every bit above `nbits` is 0. -/
def State.withFetchWord (s : State) (nbits w : Nat) : State :=
  let v := w % 2 ^ nbits
  let s1 := s.pokeByte s.pc (BitVec.ofNat 8 v)
  let s2 := s1.pokeByte (s.pc + 1) (BitVec.ofNat 8 (v / 256))
  let s3 := s2.pokeByte (s.pc + 2) (BitVec.ofNat 8 (v / 65536))
  { s3 with halted := false }

end Sys2Proof.Machine
end

