-- ==== Sys2Proof/Machine/Interaction.lean ====
section
/-!
DEFINITION. What the host may do to a core between steps besides calling `step()` and `raise_interrupt` (R320): load
memory (R57, R321), write an input port and read an output port (R324), read memory raw (R325). Reading ports and cells is
`State.readOutPort` and `State.cell`; writing an input port is `State.writeInPort`; raising an interrupt is
`State.raiseInterrupt`; the accessors of R323 are the fields of State.
-/
namespace Sys2Proof.Machine

/-- Copy bytes into consecutive cells from a raw index on (R57: neither the mirror nor the write window applies). -/
def Cells.setMany : Cells → Nat → List Byte → Cells
  | m, _, [] => m
  | m, k, v :: rest => Cells.setMany (m.set k v) (k + 1) rest

/-- The memory load interface: `none` is the reported failure, when the buffer would exceed the address space (R57 (a)). -/
def State.load (s : State) (buffer : List Byte) (base : Word) : Option State :=
  if base.toNat + buffer.length > Config.memCells then none
  else some { s with mem := Cells.setMany s.mem base.toNat buffer }

end Sys2Proof.Machine
end

