-- ==== Sys2Proof/Machine/Run.lean ====
section
/-!
DEFINITION. The outcome a step reports (R286), a run: steps with the host's actions interleaved (R288), and its end (R287).
-/
namespace Sys2Proof.Machine

/-- The outcome of a step (R280). -/
inductive Report where
  | continued
  | halted
  | fatal (op : Byte) (pc : Word)
  deriving DecidableEq, Repr

/-- The outcome `step()` reports (R286); `none` where the model itself refuses, which no instruction does. -/
def State.report (s : State) : Option Report :=
  match step s with
  | .next t => some (if t.halted then .halted else .continued)
  | .fault (.unknownOpcode op pc) => some (.fatal op pc)
  | .refused _ => none

/-- The state after a step call: a step that gives no next state leaves the state as it was (R301). -/
def State.afterStep (s : State) : State :=
  match step s with
  | .next t => t
  | .fault _ => s
  | .refused _ => s

/-- One thing that happens to a core in a run (R288, R320). -/
inductive Event where
  /-- `step()` -/
  | step
  /-- the memory load interface; a rejected load changes nothing (R303) -/
  | load (buffer : List Byte) (base : Word)
  /-- the host writes an input port (R324) -/
  | input (port v : Byte)
  /-- `raise_interrupt(vector)` (R311) -/
  | interrupt (vector : Fin 8)
  deriving DecidableEq, Repr

/-- The state after one event. -/
def State.after (s : State) : Event → State
  | .step => s.afterStep
  | .load buffer base => (s.load buffer base).getD s
  | .input port v => s.writeInPort port v
  | .interrupt vector => s.raiseInterrupt vector

/-- The state after all of a list of events, in order, whatever the steps among them report (R288). -/
def State.run (s : State) (events : List Event) : State := events.foldl State.after s

/-! ## The end of a run (R287) -/

/-- How a run ended. -/
inductive Ending where
  /-- a step returned `halted` -/
  | halted
  /-- a step returned `fatal(UnknownOpcode(op, pc))` -/
  | fatal (op : Byte) (pc : Word)
  /-- the host stopped calling: the list of events ran out -/
  | cut
  deriving DecidableEq, Repr

/-- How the run that the host drives by these events ends, and its final state (R287): at the first step that returns
`halted`, in the state after it; at the first that returns `fatal`, in the state before it; else cut, in the state after
the last event. Events after the end are not part of the run. (A step the model refused would cut the run; none is.) -/
def State.runToEnd : State → List Event → Ending × State
  | s, [] => (.cut, s)
  | s, .step :: rest =>
    match s.report with
    | some .continued => s.afterStep.runToEnd rest
    | some .halted => (.halted, s.afterStep)
    | some (.fatal op pc) => (.fatal op pc, s)
    | none => (.cut, s)
  | s, .load buffer base :: rest => (s.after (.load buffer base)).runToEnd rest
  | s, .input port v :: rest => (s.after (.input port v)).runToEnd rest
  | s, .interrupt vector :: rest => (s.after (.interrupt vector)).runToEnd rest

end Sys2Proof.Machine
end

