-- ==== Sys2Proof/Safety.lean ====
section
/-!
DEFINITION. The terms claims are stated in: the invariant of the state, what a store did to memory cell by cell, and which
instructions may change which part of the state (R11, R18, R19, R21).
-/
namespace Sys2Proof.Machine

/-- The invariant of the model's state: memory and the two port banks are in canonical form. -/
abbrev State.Inv (s : State) : Prop := Memory.wf s.mem ∧ Ports.wf s.inPort ∧ Ports.wf s.outPort

/-- `t` is `u` but for memory. -/
def AgreesOffMemory (t u : State) : Prop := { t with mem := u.mem } = u

/-- `t` is `s` but for the seven storage registers and PC. -/
def SameButRegsAndPC (s t : State) : Prop :=
  { t with a := s.a, b := s.b, c := s.c, d := s.d, e := s.e, h := s.h, l := s.l, pc := s.pc } = s

/-- Cell by cell, the memory of `t` is that of `s` after a store of `v` at program address `addr`: the cell it selects holds
`v` if `addr` is in the write window or its mirror, and every other cell is as before (R44, R48). -/
def ByteStored (s t : State) (addr : Word) (v : Byte) : Prop :=
  ∀ k, t.cell k = if 0x2000 ≤ addr ∧ k = (phys addr).toNat then v else s.cell k

/-- Cell by cell, the memory of `t` is that of `s` after a store of `lo` at `addr` and of `hi` at `addr + 1` (R49). -/
def PairStored (s t : State) (addr : Word) (lo hi : Byte) : Prop :=
  ∀ k, t.cell k =
    if 0x2000 ≤ addr ∧ k = (phys addr).toNat then lo
    else if 0x2000 ≤ addr + 1 ∧ k = (phys (addr + 1)).toNat then hi
    else s.cell k

/-- The five flags of a result byte with a given carry and auxiliary carry (R101). -/
def flagsOf (r : Byte) (cy ac : Bool) : Flags := { z := r == 0, s := r.msb, p := parity r, cy := cy, ac := ac }

/-- The packed decimal byte of a number below 100. -/
def packedDecimal (n : Nat) : Byte := BitVec.ofNat 8 (n / 10 * 16 + n % 10)

/-! ## Which instructions may change what -/

/-- The register is one of the two of the pair (R15). -/
def regInPair : Reg → Pair → Bool
  | .b, .bc | .c, .bc | .d, .de | .e, .de | .h, .hl | .l, .hl => true
  | _, _ => false

/-- The register is one of the pair a `POP` writes (R215, R216). -/
def regInStackPair : Reg → StackPair → Bool
  | .b, .bc | .c, .bc | .d, .de | .e, .de | .h, .hl | .l, .hl | .a, .psw => true
  | _, _ => false

/-- The arithmetic and logical instructions that write all five flags and A (R120 to R127, R150 to R155, R135). -/
def IsAccumulatorOp (i : Instr) : Prop :=
  (∃ x, i = .add x ∨ i = .adc x ∨ i = .sub x ∨ i = .sbb x ∨ i = .ana x ∨ i = .xra x ∨ i = .ora x) ∨
  (∃ v, i = .adi v ∨ i = .aci v ∨ i = .sui v ∨ i = .sbi v ∨ i = .ani v ∨ i = .xri v ∨ i = .ori v) ∨ i = .daa

/-- The compares (R128, R129). -/
def IsCompare (i : Instr) : Prop := (∃ x, i = .cmp x) ∨ ∃ v, i = .cpi v

/-- The rotates (R160 to R163). -/
def IsRotate (i : Instr) : Prop := i = .rlc ∨ i = .rrc ∨ i = .ral ∨ i = .rar

/-- The instructions R21 lists as writing Z, S, P and AC. -/
def WritesZSPAC (i : Instr) : Prop :=
  IsAccumulatorOp i ∨ IsCompare i ∨ (∃ x, i = .inr x ∨ i = .dcr x) ∨ i = .pop .psw

/-- The instructions R21 lists as writing CY. -/
def WritesCY (i : Instr) : Prop :=
  IsAccumulatorOp i ∨ IsCompare i ∨ (∃ p, i = .dad p) ∨ IsRotate i ∨ i = .stc ∨ i = .cmc ∨ i = .pop .psw

/-- The instructions that name register `r` as a destination, in their operands or by their rule (R11). -/
def WritesReg (i : Instr) (r : Reg) : Prop :=
  (∃ x, i = .mov r x) ∨ i = .movFromM r ∨ (∃ v, i = .mvi (.reg r) v) ∨ i = .inr (.reg r) ∨ i = .dcr (.reg r) ∨
  (∃ p, regInPair r p = true ∧ ((∃ w, i = .lxi p w) ∨ i = .inx p ∨ i = .dcx p)) ∨
  (∃ p, regInStackPair r p = true ∧ i = .pop p) ∨
  (r = .a ∧ (IsAccumulatorOp i ∨ IsRotate i ∨ i = .cma ∨ (∃ w, i = .lda w) ∨ (∃ p, i = .ldax p) ∨ ∃ p, i = .inp p)) ∨
  ((r = .h ∨ r = .l) ∧ ((∃ p, i = .dad p) ∨ (∃ w, i = .lhld w) ∨ i = .xchg ∨ i = .xthl)) ∨
  ((r = .d ∨ r = .e) ∧ i = .xchg)

/-- The instructions R19 lists as writing SP. -/
def WritesSP (i : Instr) : Prop :=
  (∃ w, i = .lxi .sp w) ∨ i = .inx .sp ∨ i = .dcx .sp ∨ i = .sphl ∨ (∃ p, i = .push p ∨ i = .pop p) ∨
  (∃ w, i = .call w) ∨ (∃ cond w, i = .cccc cond w) ∨ i = .ret ∨ (∃ cond, i = .rccc cond) ∨ ∃ n, i = .rst n

/-- The instructions that may set PC to a target (R18 (b)). -/
def TransfersControl (i : Instr) : Prop :=
  (∃ w, i = .jmp w) ∨ (∃ cond w, i = .jccc cond w) ∨ (∃ w, i = .call w) ∨ (∃ cond w, i = .cccc cond w) ∨ i = .ret ∨
  (∃ cond, i = .rccc cond) ∨ (∃ n, i = .rst n) ∨ i = .pchl

/-- The instruction, run in this state, stores a byte at this program address (R51). -/
def StoresTo (i : Instr) (s : State) (addr : Word) : Prop :=
  (((∃ r, i = .movToM r) ∨ (∃ v, i = .mvi .m v) ∨ i = .inr .m ∨ i = .dcr .m) ∧ addr = s.hl) ∨
  i = .sta addr ∨
  (∃ p, i = .stax p ∧ addr = s.readBase p) ∨
  (∃ w, i = .shld w ∧ (addr = w ∨ addr = w + 1)) ∨
  (((∃ p, i = .push p) ∨ (∃ w, i = .call w) ∨ (∃ cond w, i = .cccc cond w ∧ condHolds cond s.flags = true) ∨ ∃ n, i = .rst n) ∧
    (addr = s.sp - 1 ∨ addr = s.sp - 2)) ∨
  (i = .xthl ∧ (addr = s.sp ∨ addr = s.sp + 1))

/-- The host's part in the event is not a memory load. -/
def Event.isNotLoad : Event → Bool
  | .load _ _ => false
  | .step | .input _ _ | .interrupt _ => true

/-- The host's part in the event is not an input port write. -/
def Event.isNotInput : Event → Bool
  | .input _ _ => false
  | .step | .load _ _ | .interrupt _ => true

/-- Two states that differ at most in the cells of `MEM` that no program address selects (R43). -/
def SameVisible (s t : State) : Prop := AgreesOffMemory t s ∧ ∀ k < 0x4000, t.cell k = s.cell k

/-- The results of two runs of one instruction or step, related by `rel` where both go on and equal where they stop. -/
def ResultsRelated (rel : State → State → Prop) : Result → Result → Prop
  | .next s, .next t => rel s t
  | .fault f, .fault g => f = g
  | .refused f, .refused g => f = g
  | _, _ => False

end Sys2Proof.Machine
end

