-- ==== Sys2Proof/Certificates/Slice0/Obligations.lean ====
section
/-!
DEFINITION. The statements for the provers, each from rules of spec/ named in its docstring. Where one rests on a decision
the spec marks as its own (D<n>) or on a choice of the model's (log entry <n>), the docstring says so.
-/
open Sys2Proof Sys2Proof.Machine

/-! ## Encoding -/

/-- Decoding the bytes of a well-formed instruction gives it back, whatever follows them: the grid of R80 and the patterns
of R81 are one map. -/
def Obligations.DecodeOfEncode : Prop :=
  ∀ (i : Instr) (rest : List Byte), i.WellFormed → decodeBytes (encode i ++ rest) = .ok (i, rest)

/-- Encoding what was decoded gives the bytes back, as many as R72 says the opcode byte calls for: no byte is dropped and
no two instructions share bytes. -/
def Obligations.EncodeOfDecode : Prop :=
  ∀ op b1 b2 : Byte, encode (decode op b1 b2) = [op, b1, b2].take (instrLength op)

/-- A few words, written out from R81 bit by bit, decode to the instructions they stand for; the first four are the bytes
the source itself gives (R82 (a)). -/
def Obligations.KnownWordsDecode : Prop :=
  decode 0b00111110 5 0 = .mviA 5 ∧ decode 0b00000110 3 0 = .mviB 3 ∧ decode 0b10000000 0 0 = .addB ∧
  decode 0b01110110 0 0 = .hlt ∧ decode 0b01000001 0 0 = .movBC ∧ decode 0b10110110 0 0 = .oraM ∧
  decode 0b00110001 0x00 0x24 = .lxiSP 0x2400 ∧ decode 0b11110101 0 0 = .pushPSW ∧
  decode 0b11010010 0x34 0x12 = .jnc 0x1234 ∧ decode 0b11010111 0 0 = .rst2 ∧ decode 0b11011011 7 0 = .inp 7 ∧
  decode 0b00100111 0 0 = .daa

/-! ## Memory -/

/-- R43, R348 (the spec's decision D2): the alias function below and above 0x4000, and the seven addresses of a window cell. -/
def Obligations.MirrorMap : Prop :=
  (∀ a : Word, a < 0x4000 → phys a = a) ∧
  (∀ a : Word, 0x4000 ≤ a → (phys a).toNat = 0x2000 + a.toNat % 0x2000) ∧
  (∀ a : Word, phys a < 0x4000) ∧
  (∀ a : Word, 0x2000 ≤ a ↔ 0x2000 ≤ phys a) ∧
  ∀ a c : Word, 0x2000 ≤ c → c < 0x4000 → (phys a = c ↔ ∃ k < 7, a.toNat = c.toNat + k * 0x2000)

/-- R46, R48 (the alias function, and the write honoured at the aliased cell, are the spec's decision D2): a byte read
returns the cell its address selects; a byte write changes that cell, and nothing else of the state, when its address is
0x2000 or above, and changes nothing at all below. -/
def Obligations.ByteAccesses : Prop :=
  ∀ (s : State) (a : Word) (v : Byte),
    s.readByte a = s.cell (phys a).toNat ∧
    (a < 0x2000 → s.writeByte a v = s) ∧
    (0x2000 ≤ a → (∀ k, (s.writeByte a v).cell k = if k = (phys a).toNat then v else s.cell k) ∧
      AgreesOffMemory (s.writeByte a v) s)

/-- R47, R49 (the wrap is the spec's decision D4): word accesses are little-endian, each byte through its own address; a word
written wholly inside the window is read back, at its own address. -/
def Obligations.WordAccesses : Prop :=
  ∀ (s : State) (a w : Word),
    s.readWord a = joinBytes (s.readByte (a + 1)) (s.readByte a) ∧
    PairStored s (s.writeWord a w) a (lowByte w) (highByte w) ∧ AgreesOffMemory (s.writeWord a w) s ∧
    (0x2000 ≤ a → 0x2000 ≤ a + 1 → (s.writeWord a w).readWord a = w)

/-- R43, R44: whatever a run does, unless the host loads memory, the ROM cells and the cells no address selects stay as
they were. -/
def Obligations.RomAndHiddenCellsStay : Prop :=
  ∀ (s : State) (events : List Event), (∀ e ∈ events, e.isNotLoad = true) →
    ∀ k, k < 0x2000 ∨ 0x4000 ≤ k → (s.run events).cell k = s.cell k

/-- R43: nothing the core does depends on the cells no program address selects. -/
def Obligations.HiddenCellsAreNeverRead : Prop :=
  ∀ s t : State, SameVisible s t → ResultsRelated SameVisible (step s) (step t)

/-! ## The step -/

/-- R280, R282, R284, R285: when the bytes at PC decode to an instruction, a step of a running core is `exec` of it, and then
the opcode byte's cost is added to CYCLES and 1 to INSTRS. -/
def Obligations.StepRunsDecodedInstruction : Prop :=
  ∀ (s : State) (i : Instr) (rest : List Byte), s.halted = false →
    decodeBytes [s.readByte s.pc, s.readByte (s.pc + 1), s.readByte (s.pc + 2)] = .ok (i, rest) →
    step s = match exec i s with
      | .next t => .next { t with cycles := t.cycles + cycleCost (s.readByte s.pc), instrs := t.instrs + 1 }
      | .fault f => .fault f
      | .refused r => .refused r

/-- R281, R24, R288, R313, R332 (the spec's decision D16): a step of a halted core changes nothing; and in a run from a halted
state only memory loads change memory, only input port writes change IN_PORT, and nothing changes anything else, so that a
run of steps and interrupts alone leaves the whole state as it was. -/
def Obligations.HaltedIsTerminal : Prop :=
  ∀ s : State, s.halted = true →
    step s = .next s ∧
    ∀ events : List Event,
      { s.run events with mem := s.mem, inPort := s.inPort } = s ∧
      ((∀ e ∈ events, e.isNotLoad = true) → (s.run events).mem = s.mem) ∧
      ((∀ e ∈ events, e.isNotInput = true) → (s.run events).inPort = s.inPort) ∧
      ((∀ e ∈ events, e.isNotLoad = true ∧ e.isNotInput = true) → s.run events = s)

/-- R300, R301, R267: a step stops exactly when a running core fetches one of the twelve unassigned bytes; the reason is that
byte and PC, and no state changes. In every other case it gives a next state. -/
def Obligations.OnlyUnassignedBytesAreFatal : Prop :=
  ∀ s : State,
    if s.halted = false ∧ s.readByte s.pc ∈ Config.unassignedOpcodes then
      step s = .fault (.unknownOpcode (s.readByte s.pc) s.pc) ∧ s.afterStep = s
    else ∃ t, step s = .next t

/-- R267: an unassigned opcode byte raises the fatal outcome with that byte and pc0, and is not accounted. -/
def Obligations.UnassignedByteStops : Prop :=
  ∀ (op : Byte) (s : State), exec (.unassigned op) s = .fault (.unknownOpcode op s.pc) ∧
    ((Instr.unassigned op).WellFormed ↔
      op ∈ [0x08, 0x10, 0x18, 0x20, 0x28, 0x30, 0x38, 0xCB, 0xD9, 0xDD, 0xED, 0xFD]) ∧
    accounted op (exec (.unassigned op) s) = exec (.unassigned op) s

/-- Every instruction with an assigned opcode byte gives a next state, in every state (R284: no instruction can fail part-way;
R302: nothing else is an exception). -/
def Obligations.EveryAssignedInstructionCompletes : Prop :=
  ∀ (i : Instr) (s : State), (∀ op, i ≠ .unassigned op) → ∃ t, exec i s = .next t

/-- R286 and R287 (the spec's decisions D10, D11 and D16): the outcome a step reports; and the end of a run: it is cut exactly
when every step of it reports `continued`, its final state then the state after all events; else it ends at the first step
that does not, `halted` in the state after that step (HALTED set, PC past the `HLT` byte), or `fatal` in the state before
it (PC at the offending byte), whatever events follow. -/
def Obligations.ReportedOutcome : Prop :=
  (∀ s : State,
    (s.report = some .halted ↔ s.halted = true ∨ s.fetchInstr = .hlt) ∧
    (∀ op pc, s.report = some (.fatal op pc) ↔ s.halted = false ∧ s.fetchInstr = .unassigned op ∧ pc = s.pc) ∧
    (s.report = some .continued ↔ s.halted = false ∧ s.fetchInstr ≠ .hlt ∧ ∀ op, s.fetchInstr ≠ .unassigned op)) ∧
  ∀ (s : State) (events : List Event),
    match s.runToEnd events with
    | (.cut, t) => t = s.run events ∧
        ∀ before rest, events = before ++ .step :: rest → (s.run before).report = some .continued
    | (.halted, t) => ∃ before rest, events = before ++ .step :: rest ∧ s.runToEnd before = (.cut, s.run before) ∧
        (s.run before).report = some .halted ∧ step (s.run before) = .next t ∧ t.halted = true ∧
        ((s.run before).halted = false → (s.run before).fetchInstr = .hlt ∧ t.pc = (s.run before).pc + 1)
    | (.fatal op pc, t) => ∃ before rest, events = before ++ .step :: rest ∧ s.runToEnd before = (.cut, s.run before) ∧
        (s.run before).report = some (.fatal op pc) ∧ t = s.run before ∧ t.pc = pc ∧ t.readByte t.pc = op

/-- R29: the state after reset, for every value of the open parameter SP_RESET; it satisfies the invariant. (That the model's
own reset uses 0x3FFF is its choice, log entry 1, and not part of this.) -/
def Obligations.ResetState : Prop :=
  ∀ sp : Word,
    let s := State.resetWith sp
    (∀ r, s.readReg r = 0) ∧ s.pc = 0 ∧ s.sp = sp ∧ s.flags.toByte = 0x02 ∧
    s.flags = { z := false, s := false, p := false, cy := false, ac := false } ∧ s.ie = false ∧ s.halted = false ∧
    (∀ k, s.cell k = 0) ∧ (∀ p, s.readInPort p = 0 ∧ s.readOutPort p = 0) ∧ s.cycles = 0 ∧ s.instrs = 0 ∧
    s.Inv ∧ State.reset.Inv

/-- Every step keeps memory and the port banks in canonical form (R40, R26: 65536 and 256 entries). -/
def Obligations.StepKeepsInvariant : Prop := ∀ s t : State, s.Inv → step s = .next t → t.Inv

/-- Every run, whatever the host does in it, keeps the invariant (R287, R288). -/
def Obligations.RunKeepsInvariant : Prop := ∀ (s : State) (events : List Event), s.Inv → (s.run events).Inv

/-- R27, R285, R318: no instruction reads the counters: a step from other counter values does the same, shifted. -/
def Obligations.CountersAreNeverRead : Prop :=
  ∀ (s : State) (c n : Count),
    ResultsRelated (fun t u => u = { t with cycles := t.cycles + c, instrs := t.instrs + n })
      (step s) (step { s with cycles := s.cycles + c, instrs := s.instrs + n })

/-- R350, R27 (the entries the source does not fix are the spec's default, its decision D18, log entry 2): the six costs the
source gives, the range 4 to 18 of every executed instruction's cost, and that accounting adds the cost of the opcode byte
under any table. -/
def Obligations.CycleCosts : Prop :=
  cycleCost 0x00 = 4 ∧ cycleCost 0x01 = 10 ∧ cycleCost 0x76 = 7 ∧ cycleCost 0xC3 = 10 ∧ cycleCost 0xD3 = 10 ∧
  cycleCost 0xDB = 10 ∧ (∀ op : Byte, op ∉ Config.unassignedOpcodes → 4 ≤ cycleCost op ∧ cycleCost op ≤ 18) ∧
  ∀ (cost : Byte → Count) (s : State) (op : Byte),
    s.accountWith cost op = { s with cycles := s.cycles + cost op, instrs := s.instrs + 1 }

/-! ## Which instructions change which state -/

/-- R26: an instruction other than `IN` neither reads nor writes IN_PORT, and `IN` does not write it; an instruction other
than `OUT` neither reads nor writes OUT_PORT (without hooks, log entry 4). -/
def Obligations.PortBankAccess : Prop :=
  ∀ (i : Instr) (s : State) (ports : Ports),
    ((∀ p, i ≠ .inp p) → ResultsRelated (fun t u => u = { t with inPort := ports }) (exec i s) (exec i { s with inPort := ports })) ∧
    ((∀ p, i ≠ .out p) → ResultsRelated (fun t u => u = { t with outPort := ports }) (exec i s) (exec i { s with outPort := ports })) ∧
    ∀ t, exec i s = .next t → t.inPort = s.inPort ∧ ((∀ p, i ≠ .out p) → t.outPort = s.outPort)

/-- R21: an instruction the table does not list as writing a flag leaves it unchanged. -/
def Obligations.FlagsKeptUnlessListed : Prop :=
  ∀ (i : Instr) (s t : State), exec i s = .next t →
    (¬ WritesZSPAC i →
      t.flags.z = s.flags.z ∧ t.flags.s = s.flags.s ∧ t.flags.p = s.flags.p ∧ t.flags.ac = s.flags.ac) ∧
    (¬ WritesCY i → t.flags.cy = s.flags.cy)

/-- R11, R19: an instruction leaves every storage register it does not name as a destination, and SP unless R19 lists it,
unchanged. -/
def Obligations.RegistersKeptUnlessNamed : Prop :=
  ∀ (i : Instr) (s t : State), exec i s = .next t →
    (∀ r, ¬ WritesReg i r → t.readReg r = s.readReg r) ∧ (¬ WritesSP i → t.sp = s.sp)

/-- R23, R24: IE is changed by `EI` and `DI` alone and HALTED by `HLT` alone; no instruction touches the counters, which are
the step's to advance (R285). -/
def Obligations.ControlStateKept : Prop :=
  ∀ (i : Instr) (s t : State), exec i s = .next t →
    (i ≠ .ei → i ≠ .di → t.ie = s.ie) ∧ (i ≠ .hlt → t.halted = s.halted) ∧ t.cycles = s.cycles ∧ t.instrs = s.instrs

/-- R51: an instruction leaves every byte of memory unchanged but the cells of the addresses it stores to, and stores
nowhere below 0x2000 (R44). -/
def Obligations.MemoryKeptOutsideStores : Prop :=
  ∀ (i : Instr) (s t : State), exec i s = .next t →
    ∀ k, (∀ a : Word, StoresTo i s a → 0x2000 ≤ a → k ≠ (phys a).toNat) → t.cell k = s.cell k

/-- R18 (a): an instruction that does not transfer control advances PC by its length, modulo 65536. -/
def Obligations.PCAdvancesByLength : Prop :=
  ∀ (i : Instr) (s t : State), exec i s = .next t → ¬ TransfersControl i →
    t.pc = s.pc + BitVec.ofNat 16 (encode i).length

/-! ## Flag helpers -/

/-- R102: parity is 1 when the number of 1 bits is even, equivalently the complement of the exclusive or of the eight bits. -/
def Obligations.ParityIsEven : Prop :=
  ∀ v : Byte,
    parity v = (true ^^ v.getLsbD 7 ^^ v.getLsbD 6 ^^ v.getLsbD 5 ^^ v.getLsbD 4 ^^ v.getLsbD 3 ^^ v.getLsbD 2 ^^
      v.getLsbD 1 ^^ v.getLsbD 0) ∧
    (parity v = true ↔ ((List.range 8).filter fun i => v.getLsbD i).length % 2 = 0)

/-- R22: the flag byte bit by bit, its extremes, and the shape of every value of it. -/
def Obligations.FlagByteLayout : Prop :=
  ∀ f : Flags,
    let v := f.toByte
    v.getLsbD 7 = f.s ∧ v.getLsbD 6 = f.z ∧ v.getLsbD 5 = false ∧ v.getLsbD 4 = f.ac ∧ v.getLsbD 3 = false ∧
    v.getLsbD 2 = f.p ∧ v.getLsbD 1 = true ∧ v.getLsbD 0 = f.cy ∧ 0x02 ≤ v ∧ v ≤ 0xD7

/-- R112 (AC rests on the spec's decisions D6 and D29): the adder and the subtracter return the sums modulo 256, and
subtraction is addition of the complement with the complementary carry. -/
def Obligations.AdderLaws : Prop :=
  ∀ (a v : Byte) (c : Bool) (f : Flags),
    (add8 a v c f).1 = a + v + BitVec.ofNat 8 c.toNat ∧
    (sub8 a v c f).1 = a - v - BitVec.ofNat 8 c.toNat ∧
    (sub8 a v c f).1 = (add8 a (~~~v) (!c) f).1 ∧
    (sub8 a v c f).2 = { (add8 a (~~~v) (!c) f).2 with cy := !(add8 a (~~~v) (!c) f).2.cy } ∧
    sub8 a a false f = (0, { z := true, s := false, p := true, cy := false, ac := true }) ∧
    add8 a 0 false f = (a, flagsOf a false false)

/-! ## Data transfer -/

/-- R180 (the spec's decision D20): `MOV r1,r2`. -/
def Obligations.MoveBetweenRegisters : Prop :=
  ∀ (dst src : Reg) (s : State),
    encode (.mov dst src) = [0x40 + 8 * dst.code + src.code] ∧
    ∃ t, exec (.mov dst src) s = .next t ∧ t.pc = s.pc + 1 ∧
      (∀ r, t.readReg r = if r = dst then s.readReg src else s.readReg r) ∧ SameButRegsAndPC s t

/-- R181, R182 (the spec's decision D20): `MOV r,M` and `MOV M,r`, the address taken from the old H:L. -/
def Obligations.MoveThroughHL : Prop :=
  ∀ (r : Reg) (s : State),
    encode (.movFromM r) = [0x46 + 8 * r.code] ∧ encode (.movToM r) = [0x70 + r.code] ∧
    (∃ t, exec (.movFromM r) s = .next t ∧ t.pc = s.pc + 1 ∧
      (∀ q, t.readReg q = if q = r then s.readByte (joinBytes s.h s.l) else s.readReg q) ∧ SameButRegsAndPC s t) ∧
    ∃ t, exec (.movToM r) s = .next t ∧ AgreesOffMemory t { s with pc := s.pc + 1 } ∧
      ByteStored s t (joinBytes s.h s.l) (s.readReg r)

/-- R183, R184, R185 (that code 110 is M is the spec's decision D1): `MVI` and `LXI`; the second byte of `LXI` goes to the
low-order register. -/
def Obligations.LoadImmediates : Prop :=
  ∀ s : State,
    (∀ (r : Reg) (v : Byte), encode (.mvi (.reg r) v) = [0x06 + 8 * r.code, v] ∧
      ∃ t, exec (.mvi (.reg r) v) s = .next t ∧ t.pc = s.pc + 2 ∧
        (∀ q, t.readReg q = if q = r then v else s.readReg q) ∧ SameButRegsAndPC s t) ∧
    (∀ v : Byte, encode (.mvi .m v) = [0x36, v] ∧
      ∃ t, exec (.mvi .m v) s = .next t ∧ AgreesOffMemory t { s with pc := s.pc + 2 } ∧
        ByteStored s t (joinBytes s.h s.l) v) ∧
    ∀ lo hi : Byte, (∀ p : Pair, encode (.lxi p (joinBytes hi lo)) = [0x01 + 16 * p.code, lo, hi]) ∧
      exec (.lxi .bc (joinBytes hi lo)) s = .next { s with b := hi, c := lo, pc := s.pc + 3 } ∧
      exec (.lxi .de (joinBytes hi lo)) s = .next { s with d := hi, e := lo, pc := s.pc + 3 } ∧
      exec (.lxi .hl (joinBytes hi lo)) s = .next { s with h := hi, l := lo, pc := s.pc + 3 } ∧
      exec (.lxi .sp (joinBytes hi lo)) s = .next { s with sp := joinBytes hi lo, pc := s.pc + 3 }

/-- R186, R187, R190, R191: `LDA STA LDAX STAX`. -/
def Obligations.AccumulatorLoadsAndStores : Prop :=
  ∀ s : State,
    (∀ lo hi : Byte, encode (.lda (joinBytes hi lo)) = [0x3A, lo, hi] ∧ encode (.sta (joinBytes hi lo)) = [0x32, lo, hi]) ∧
    (∀ w, exec (.lda w) s = .next { s with a := s.readByte w, pc := s.pc + 3 } ∧
      ∃ t, exec (.sta w) s = .next t ∧ AgreesOffMemory t { s with pc := s.pc + 3 } ∧ ByteStored s t w s.a) ∧
    ∀ p : BasePair,
      let base := match p with
        | .bc => joinBytes s.b s.c
        | .de => joinBytes s.d s.e
      encode (.ldax p) = [0x0A + 16 * p.code] ∧ encode (.stax p) = [0x02 + 16 * p.code] ∧
      exec (.ldax p) s = .next { s with a := s.readByte base, pc := s.pc + 1 } ∧
      ∃ t, exec (.stax p) s = .next t ∧ AgreesOffMemory t { s with pc := s.pc + 1 } ∧ ByteStored s t base s.a

/-- R188, R189, R192: `LHLD SHLD XCHG`. -/
def Obligations.PairLoadsStoresAndExchange : Prop :=
  ∀ s : State,
    (∀ lo hi : Byte, encode (.lhld (joinBytes hi lo)) = [0x2A, lo, hi] ∧ encode (.shld (joinBytes hi lo)) = [0x22, lo, hi]) ∧
    encode .xchg = [0xEB] ∧
    (∀ w, exec (.lhld w) s = .next { s with l := s.readByte w, h := s.readByte (w + 1), pc := s.pc + 3 } ∧
      ∃ t, exec (.shld w) s = .next t ∧ AgreesOffMemory t { s with pc := s.pc + 3 } ∧ PairStored s t w s.l s.h) ∧
    exec .xchg s = .next { s with h := s.d, l := s.e, d := s.h, e := s.l, pc := s.pc + 1 }

/-! ## Arithmetic -/

/-- R120, R122 (`ADI` by the spec's decision D20): `ADD` and `ADI`: the sum modulo 256, Z S P from it, CY out of bit 7, AC
out of bit 3. -/
def Obligations.AddResult : Prop :=
  ∀ s : State,
    let sum (v : Byte) (len : Word) : State :=
      { s with
        a := s.a + v, pc := s.pc + len,
        flags := flagsOf (s.a + v) (decide (0xFF < s.a.toNat + v.toNat)) (decide (0x0F < s.a.toNat % 16 + v.toNat % 16)) }
    (∀ x : Slot, encode (.add x) = [0x80 + x.code] ∧ exec (.add x) s = .next (sum (s.readSlot x) 1)) ∧
    ∀ v : Byte, encode (.adi v) = [0xC6, v] ∧ exec (.adi v) s = .next (sum v 2)

/-- R121, R123 (AC takes in the carry by the spec's decision D29, `ACI` by D20): `ADC` and `ACI`, with the old CY. -/
def Obligations.AddWithCarryResult : Prop :=
  ∀ s : State,
    let c : Nat := if s.flags.cy then 1 else 0
    let sum (v : Byte) (len : Word) : State :=
      let r := s.a + v + BitVec.ofNat 8 c
      { s with
        a := r, pc := s.pc + len,
        flags := flagsOf r (decide (0xFF < s.a.toNat + v.toNat + c)) (decide (0x0F < s.a.toNat % 16 + v.toNat % 16 + c)) }
    (∀ x : Slot, encode (.adc x) = [0x88 + x.code] ∧ exec (.adc x) s = .next (sum (s.readSlot x) 1)) ∧
    ∀ v : Byte, encode (.aci v) = [0xCE, v] ∧ exec (.aci v) s = .next (sum v 2)

/-- R124 to R127 (AC by the spec's decision D6, the borrow of `SBB` and `SBI` by D7, `SUI` and `SBI` by D20): CY is the
borrow, AC is 1 when the low nibble does not borrow. -/
def Obligations.SubtractResult : Prop :=
  ∀ s : State,
    let diff (v : Byte) (b : Nat) (len : Word) : State :=
      let r := s.a - v - BitVec.ofNat 8 b
      { s with
        a := r, pc := s.pc + len,
        flags := flagsOf r (decide (s.a.toNat < v.toNat + b)) (decide (v.toNat % 16 + b ≤ s.a.toNat % 16)) }
    let c : Nat := if s.flags.cy then 1 else 0
    (∀ x : Slot, encode (.sub x) = [0x90 + x.code] ∧ exec (.sub x) s = .next (diff (s.readSlot x) 0 1) ∧
      encode (.sbb x) = [0x98 + x.code] ∧ exec (.sbb x) s = .next (diff (s.readSlot x) c 1)) ∧
    ∀ v : Byte, encode (.sui v) = [0xD6, v] ∧ exec (.sui v) s = .next (diff v 0 2) ∧
      encode (.sbi v) = [0xDE, v] ∧ exec (.sbi v) s = .next (diff v c 2)

/-- R128, R129 (AC by the spec's decision D6, `CPI` by D20): `CMP` and `CPI` write the flags and not A; Z says equal, CY
says below; and `SUB` after `CMP` leaves the flags `SUB` alone leaves. -/
def Obligations.CompareResult : Prop :=
  ∀ s : State,
    let cmp (v : Byte) (len : Word) : State :=
      { s with
        pc := s.pc + len,
        flags := { z := decide (s.a = v), s := (s.a - v).msb, p := parity (s.a - v), cy := decide (s.a < v),
                   ac := decide (v.toNat % 16 ≤ s.a.toNat % 16) } }
    (∀ v : Byte, encode (.cpi v) = [0xFE, v] ∧ exec (.cpi v) s = .next (cmp v 2)) ∧
    ∀ x : Slot, encode (.cmp x) = [0xB8 + x.code] ∧ exec (.cmp x) s = .next (cmp (s.readSlot x) 1) ∧
      ∃ t u, exec (.sub x) (cmp (s.readSlot x) 1) = .next t ∧ exec (.sub x) s = .next u ∧
        t.flags = u.flags ∧ t.flags = (cmp (s.readSlot x) 1).flags ∧ t.a = u.a

/-- R130: `INR`: Z S P from the result, AC when the low nibble was 0xF, CY kept; for M the store may be dropped and the flags
are written all the same. -/
def Obligations.IncrementResult : Prop :=
  ∀ s : State,
    let flags (v : Byte) : Flags := flagsOf (v + 1) s.flags.cy (decide (v.toNat % 16 = 15))
    (∀ r : Reg, encode (.inr (.reg r)) = [0x04 + 8 * r.code] ∧
      ∃ t, exec (.inr (.reg r)) s = .next t ∧ t.pc = s.pc + 1 ∧ t.flags = flags (s.readReg r) ∧
        (∀ q, t.readReg q = if q = r then s.readReg r + 1 else s.readReg q) ∧
        SameButRegsAndPC s { t with flags := s.flags }) ∧
    encode (.inr .m) = [0x34] ∧
    ∃ t, exec (.inr .m) s = .next t ∧
      AgreesOffMemory t { s with pc := s.pc + 1, flags := flags (s.readByte (joinBytes s.h s.l)) } ∧
      ByteStored s t (joinBytes s.h s.l) (s.readByte (joinBytes s.h s.l) + 1)

/-- R131 (AC by the spec's decision D6): `DCR`: AC is 0 exactly when the low nibble was 0, CY is kept. -/
def Obligations.DecrementResult : Prop :=
  ∀ s : State,
    let flags (v : Byte) : Flags := flagsOf (v - 1) s.flags.cy (decide (v.toNat % 16 ≠ 0))
    (∀ r : Reg, encode (.dcr (.reg r)) = [0x05 + 8 * r.code] ∧
      ∃ t, exec (.dcr (.reg r)) s = .next t ∧ t.pc = s.pc + 1 ∧ t.flags = flags (s.readReg r) ∧
        (∀ q, t.readReg q = if q = r then s.readReg r - 1 else s.readReg q) ∧
        SameButRegsAndPC s { t with flags := s.flags }) ∧
    encode (.dcr .m) = [0x35] ∧
    ∃ t, exec (.dcr .m) s = .next t ∧
      AgreesOffMemory t { s with pc := s.pc + 1, flags := flags (s.readByte (joinBytes s.h s.l)) } ∧
      ByteStored s t (joinBytes s.h s.l) (s.readByte (joinBytes s.h s.l) - 1)

/-- R132, R133, R134 (the wrap by the spec's decision D4, `INX` and `DCX` by D20): `INX DCX DAD` on each pair; only `DAD`
writes a flag, and only CY. -/
def Obligations.PairArithmetic : Prop :=
  ∀ (p : Pair) (s : State),
    let old : Word := match p with
      | .bc => joinBytes s.b s.c
      | .de => joinBytes s.d s.e
      | .hl => joinBytes s.h s.l
      | .sp => s.sp
    let put (w : Word) : State := match p with
      | .bc => { s with b := highByte w, c := lowByte w, pc := s.pc + 1 }
      | .de => { s with d := highByte w, e := lowByte w, pc := s.pc + 1 }
      | .hl => { s with h := highByte w, l := lowByte w, pc := s.pc + 1 }
      | .sp => { s with sp := w, pc := s.pc + 1 }
    encode (.inx p) = [0x03 + 16 * p.code] ∧ encode (.dcx p) = [0x0B + 16 * p.code] ∧ encode (.dad p) = [0x09 + 16 * p.code] ∧
    exec (.inx p) s = .next (put (old + 1)) ∧ exec (.dcx p) s = .next (put (old - 1)) ∧
    exec (.dad p) s = .next
      { s with
        h := highByte (joinBytes s.h s.l + old), l := lowByte (joinBytes s.h s.l + old), pc := s.pc + 1,
        flags := { s.flags with cy := decide (0xFFFF < (joinBytes s.h s.l).toNat + old.toNat) } }

/-- R135 (CY never cleared and AC by the spec's decision D9): `DAA` is one addition of 0x00, 0x06, 0x60 or 0x66, chosen from
A, CY and AC as they were. -/
def Obligations.DecimalAdjustResult : Prop :=
  ∀ s : State,
    let low : Bool := decide (9 < s.a.toNat % 16) || s.flags.ac
    let high : Bool := decide (0x99 < s.a.toNat) || s.flags.cy
    let r : Byte := s.a + (if low then 0x06 else 0) + (if high then 0x60 else 0)
    encode .daa = [0x27] ∧
    exec .daa s = .next
      { s with a := r, pc := s.pc + 1, flags := flagsOf r high (low && decide (9 < s.a.toNat % 16)) }

/-- R121, R123, R135 (rests on the spec's decisions D9, D20 and D29): adding two packed decimal numbers with carry and
adjusting gives their packed decimal sum, CY the decimal carry. -/
def Obligations.DecimalAddition : Prop :=
  ∀ (x y : Nat) (s : State), x < 100 → y < 100 → s.a = packedDecimal x →
    let n := x + y + (if s.flags.cy then 1 else 0)
    ∃ t u, exec (.aci (packedDecimal y)) s = .next t ∧ exec .daa t = .next u ∧
      u.a = packedDecimal (n % 100) ∧ u.flags.cy = decide (100 ≤ n)

/-! ## Logical, complement, carry and rotate -/

/-- R151, R154 (`XRI` by the spec's decision D20): `XRA` and `XRI`: Z S P from the result, CY and AC cleared. -/
def Obligations.ExclusiveOrResult : Prop :=
  ∀ s : State,
    (∀ x : Slot, encode (.xra x) = [0xA8 + x.code] ∧
      exec (.xra x) s = .next
        { s with a := s.a ^^^ s.readSlot x, pc := s.pc + 1, flags := flagsOf (s.a ^^^ s.readSlot x) false false }) ∧
    (∀ v : Byte, encode (.xri v) = [0xEE, v] ∧
      exec (.xri v) s = .next { s with a := s.a ^^^ v, pc := s.pc + 2, flags := flagsOf (s.a ^^^ v) false false }) ∧
    exec (.xra (.reg .a)) s = .next { s with a := 0, pc := s.pc + 1, flags := flagsOf 0 false false }

/-- R150, R152, R153, R155 (AC by the spec's decision D8, `ANI` and `ORI` by D20): `ANA ANI ORA ORI`. -/
def Obligations.AndOrResult : Prop :=
  ∀ s : State,
    let both (v : Byte) (len : Word) : State :=
      { s with a := s.a &&& v, pc := s.pc + len, flags := flagsOf (s.a &&& v) false (s.a.getLsbD 3 || v.getLsbD 3) }
    let either (v : Byte) (len : Word) : State :=
      { s with a := s.a ||| v, pc := s.pc + len, flags := flagsOf (s.a ||| v) false false }
    (∀ x : Slot, encode (.ana x) = [0xA0 + x.code] ∧ exec (.ana x) s = .next (both (s.readSlot x) 1) ∧
      encode (.ora x) = [0xB0 + x.code] ∧ exec (.ora x) s = .next (either (s.readSlot x) 1)) ∧
    ∀ v : Byte, encode (.ani v) = [0xE6, v] ∧ exec (.ani v) s = .next (both v 2) ∧
      encode (.ori v) = [0xF6, v] ∧ exec (.ori v) s = .next (either v 2)

/-- R156, R157, R158 (the spec's decision D20): `CMA` writes no flag; `STC` and `CMC` write CY alone. -/
def Obligations.ComplementAndCarry : Prop :=
  ∀ s : State,
    encode .cma = [0x2F] ∧ encode .stc = [0x37] ∧ encode .cmc = [0x3F] ∧
    exec .cma s = .next { s with a := s.a ^^^ 0xFF, pc := s.pc + 1 } ∧
    exec .stc s = .next { s with flags := { s.flags with cy := true }, pc := s.pc + 1 } ∧
    exec .cmc s = .next { s with flags := { s.flags with cy := !s.flags.cy }, pc := s.pc + 1 }

/-- R160 to R163 (read by the spec's decision D30): `RLC` and `RRC` rotate the eight bits of A and copy the bit that comes round
to CY; `RAL` and `RAR` rotate the nine bits CY:A; no other flag changes. -/
def Obligations.Rotates : Prop :=
  ∀ s : State,
    let put (v : Byte) (cy : Bool) : State := { s with a := v, flags := { s.flags with cy := cy }, pc := s.pc + 1 }
    let nine : BitVec 9 := BitVec.ofBool s.flags.cy ++ s.a
    encode .rlc = [0x07] ∧ encode .rrc = [0x0F] ∧ encode .ral = [0x17] ∧ encode .rar = [0x1F] ∧
    exec .rlc s = .next (put (s.a.rotateLeft 1) (s.a.getLsbD 7)) ∧
    exec .rrc s = .next (put (s.a.rotateRight 1) (s.a.getLsbD 0)) ∧
    exec .ral s = .next (put ((nine.rotateLeft 1).setWidth 8) ((nine.rotateLeft 1).getLsbD 8)) ∧
    exec .rar s = .next (put ((nine.rotateRight 1).setWidth 8) ((nine.rotateRight 1).getLsbD 8))

/-! ## Stack -/

/-- R213, R214, R210 (the wrap and the order of A and the flag byte are the spec's decisions D4 and D21): `PUSH`: the high
byte at SP-1, the low byte at SP-2, SP down by 2 even where a byte is dropped. -/
def Obligations.PushResult : Prop :=
  ∀ (p : StackPair) (s : State),
    let pair : Byte × Byte := match p with
      | .bc => (s.b, s.c)
      | .de => (s.d, s.e)
      | .hl => (s.h, s.l)
      | .psw => (s.a, s.flags.toByte)
    encode (.push p) = [0xC5 + 16 * p.code] ∧
    ∃ t, exec (.push p) s = .next t ∧ AgreesOffMemory t { s with sp := s.sp - 2, pc := s.pc + 1 } ∧
      PairStored s t (s.sp - 2) pair.2 pair.1

/-- R215, R216, R211 (D4, D21): `POP`: the low byte from SP, the high byte from SP+1, SP up by 2; bits 5, 3 and 1 of a popped
flag byte are ignored. -/
def Obligations.PopResult : Prop :=
  ∀ (p : StackPair) (s : State),
    let lo := s.readByte s.sp
    let hi := s.readByte (s.sp + 1)
    let up : State := { s with sp := s.sp + 2, pc := s.pc + 1 }
    encode (.pop p) = [0xC1 + 16 * p.code] ∧
    exec (.pop p) s = .next (match p with
      | .bc => { up with b := hi, c := lo }
      | .de => { up with d := hi, e := lo }
      | .hl => { up with h := hi, l := lo }
      | .psw => { up with
          a := hi, flags := { s := lo.getLsbD 7, z := lo.getLsbD 6, ac := lo.getLsbD 4, p := lo.getLsbD 2, cy := lo.getLsbD 0 } })

/-- R219 (the wrap and the PSW pair are the spec's decisions D4 and D21): a pop after a push always brings SP back, and leaves
in memory the two bytes the push stored and every other cell as before; where both bytes fall at or above 0x2000 it
restores the pair, and with it the whole state but those two cells and PC. -/
def Obligations.PushThenPop : Prop :=
  ∀ (p : StackPair) (s : State),
    let pair : Byte × Byte := match p with
      | .bc => (s.b, s.c)
      | .de => (s.d, s.e)
      | .hl => (s.h, s.l)
      | .psw => (s.a, s.flags.toByte)
    ∃ t u, exec (.push p) s = .next t ∧ exec (.pop p) t = .next u ∧ u.sp = s.sp ∧
      PairStored s u (s.sp - 2) pair.2 pair.1 ∧
      (0x2000 ≤ s.sp - 1 → 0x2000 ≤ s.sp - 2 → AgreesOffMemory u { s with pc := s.pc + 2 })

/-- R217, R218 (the wrap of SP+1, `SPHL` and the order of the accesses are the spec's decisions D4, D20 and D23): `XTHL`
swaps L with the byte at SP and H with the byte at SP+1, reads before writes; `SPHL` copies HL to SP. -/
def Obligations.StackTopExchangeAndLoad : Prop :=
  ∀ s : State,
    encode .xthl = [0xE3] ∧ encode .sphl = [0xF9] ∧
    (∃ t, exec .xthl s = .next t ∧
      AgreesOffMemory t { s with l := s.readByte s.sp, h := s.readByte (s.sp + 1), pc := s.pc + 1 } ∧
      PairStored s t s.sp s.l s.h) ∧
    exec .sphl s = .next { s with sp := joinBytes s.h s.l, pc := s.pc + 1 }

/-! ## Control transfer -/

/-- R231, R232, R233, R239 (the condition codes are the spec's decision D22, `PCHL` is D20): the conditions by code, `JMP`,
`Jccc` and `PCHL`. -/
def Obligations.JumpResult : Prop :=
  ∀ (cond : Cond) (w : Word) (s : State),
    let flag : Bool := match (cond.code >>> 1).toNat with
      | 0 => s.flags.z
      | 1 => s.flags.cy
      | 2 => s.flags.p
      | _ => s.flags.s
    let taken : Bool := flag == cond.code.getLsbD 0
    encode (.jmp w) = [0xC3, lowByte w, highByte w] ∧ encode (.jccc cond w) = [0xC2 + 8 * cond.code, lowByte w, highByte w] ∧
    encode .pchl = [0xE9] ∧ condHolds cond s.flags = taken ∧
    exec (.jmp w) s = .next { s with pc := w } ∧
    exec (.jccc cond w) s = .next { s with pc := if taken then w else s.pc + 3 } ∧
    exec .pchl s = .next { s with pc := joinBytes s.h s.l }

/-- R234, R235 (D4, D22): `CALL` and a taken `Cccc` push pc0 + 3 and go to the target; a `Cccc` not taken only passes on. -/
def Obligations.CallResult : Prop :=
  ∀ (cond : Cond) (w : Word) (s : State),
    let called (t : State) : Prop := AgreesOffMemory t { s with sp := s.sp - 2, pc := w } ∧
      PairStored s t (s.sp - 2) (lowByte (s.pc + 3)) (highByte (s.pc + 3))
    encode (.call w) = [0xCD, lowByte w, highByte w] ∧ encode (.cccc cond w) = [0xC4 + 8 * cond.code, lowByte w, highByte w] ∧
    (∃ t, exec (.call w) s = .next t ∧ called t) ∧
    ∃ t, exec (.cccc cond w) s = .next t ∧
      if condHolds cond s.flags = true then called t else t = { s with pc := s.pc + 3 }

/-- R236, R237 (D4, D22): `RET` and a taken `Rccc` take PC from the two bytes at SP; an `Rccc` not taken only passes on. -/
def Obligations.ReturnResult : Prop :=
  ∀ (cond : Cond) (s : State),
    let back : State := { s with sp := s.sp + 2, pc := joinBytes (s.readByte (s.sp + 1)) (s.readByte s.sp) }
    encode .ret = [0xC9] ∧ encode (.rccc cond) = [0xC0 + 8 * cond.code] ∧
    exec .ret s = .next back ∧
    exec (.rccc cond) s = .next (if condHolds cond s.flags then back else { s with pc := s.pc + 1 })

/-- R238 (D4): `RST n` pushes pc0 + 1 and goes to n * 8. -/
def Obligations.RestartResult : Prop :=
  ∀ (n : Fin 8) (s : State),
    encode (.rst n) = [0xC7 + 8 * BitVec.ofNat 8 n.val] ∧
    ∃ t, exec (.rst n) s = .next t ∧ AgreesOffMemory t { s with sp := s.sp - 2, pc := 8 * BitVec.ofNat 16 n.val } ∧
      PairStored s t (s.sp - 2) (lowByte (s.pc + 1)) (highByte (s.pc + 1))

/-- R219, R234, R236, R238, R311, R315 (D4, D14): where the stack bytes fall at or above 0x2000, `RET` after `CALL`, after
`RST` and after an accepted interrupt (one that leaves IE as it was, log entry 3) resumes at the return address with
everything but the two stack cells as before, those holding the return address. -/
def Obligations.ReturnResumesCaller : Prop :=
  ∀ s : State, 0x2000 ≤ s.sp - 1 → 0x2000 ≤ s.sp - 2 →
    let resumed (u : State) (ret : Word) : Prop :=
      AgreesOffMemory u { s with pc := ret } ∧ PairStored s u (s.sp - 2) (lowByte ret) (highByte ret)
    (∀ w, ∃ t u, exec (.call w) s = .next t ∧ exec .ret t = .next u ∧ resumed u (s.pc + 3)) ∧
    (∀ n, ∃ t u, exec (.rst n) s = .next t ∧ exec .ret t = .next u ∧ resumed u (s.pc + 1)) ∧
    ∀ n, ∃ u, exec .ret (s.raiseInterruptWith false n) = .next u ∧
      (s.halted = false → s.ie = true → resumed u s.pc)

/-! ## Control, ports, interrupts, the host -/

/-- R260, R263 (the spec's decisions D20 and D15): `NOP` does nothing but advance PC; `DI` clears IE at once. -/
def Obligations.NopAndDisable : Prop :=
  ∀ s : State, encode .nop = [0x00] ∧ encode .di = [0xF3] ∧
    exec .nop s = .next { s with pc := s.pc + 1 } ∧ exec .di s = .next { s with ie := false, pc := s.pc + 1 }

/-- R262, R261 (the spec's decisions D15 and D16): `EI` sets IE, and an interrupt raised before the very next step is accepted;
`HLT` sets HALTED and leaves PC past itself, and an interrupt raised then is dropped. -/
def Obligations.EnableAndHalt : Prop :=
  ∀ (s : State) (n : Fin 8), encode .ei = [0xFB] ∧ encode .hlt = [0x76] ∧
    (∃ t, exec .ei s = .next t ∧ t = { s with ie := true, pc := s.pc + 1 } ∧
      (s.halted = false → (t.raiseInterrupt n).pc = 8 * BitVec.ofNat 16 n.val)) ∧
    ∃ t, exec .hlt s = .next t ∧ t = { s with halted := true, pc := s.pc + 1 } ∧ t.raiseInterrupt n = t

/-- R264, R265 (the spec's decision D12): `IN` loads A from the port's entry and `OUT` stages A in the port's entry; the port
instructions with the hooks' actions given do the same on the banks as the hooks leave them (R266). -/
def Obligations.InputAndOutput : Prop :=
  ∀ (p : Byte) (s : State), encode (.inp p) = [0xDB, p] ∧ encode (.out p) = [0xD3, p] ∧
    exec (.inp p) s = .next { s with a := s.readInPort p, pc := s.pc + 2 } ∧
    (∀ v, s.inputWith (some v) p = { s.writeInPort p v with a := v, pc := s.pc + 2 }) ∧
    ∃ t, exec (.out p) s = .next t ∧ t = { s with outPort := t.outPort, pc := s.pc + 2 } ∧
      (∀ q, t.readOutPort q = if q = p then s.a else s.readOutPort q) ∧
      ∀ writes, s.outputWith writes p = writes.foldl (fun u pv => u.writeInPort pv.1 pv.2) t

/-- R311, R312, R313, R317 (the spec's decisions D14, D16 and D17; the parameter INT_ACK_CLEARS_IE is an argument): an
interrupt is accepted exactly when IE is set and the core is not halted, pushes PC, goes to vector * 8 and saves nothing
else. -/
def Obligations.InterruptDelivery : Prop :=
  ∀ (clearsIE : Bool) (s : State) (n : Fin 8),
    (s.halted = true ∨ s.ie = false → s.raiseInterruptWith clearsIE n = s) ∧
    (s.halted = false → s.ie = true →
      AgreesOffMemory (s.raiseInterruptWith clearsIE n)
        { s with sp := s.sp - 2, pc := 8 * BitVec.ofNat 16 n.val, ie := !clearsIE } ∧
      PairStored s (s.raiseInterruptWith clearsIE n) (s.sp - 2) (lowByte s.pc) (highByte s.pc))

/-- R321, R57 (a), R303 (that the load bypasses window and mirror is the spec's decision D3): a load that fits copies the
buffer to the raw cells from its base on and changes nothing else; one that does not fit fails, and changes nothing in a
run. -/
def Obligations.LoadIsAllOrNothing : Prop :=
  ∀ (s : State) (buffer : List Byte) (base : Word),
    if base.toNat + buffer.length > 65536 then s.load buffer base = none ∧ s.after (.load buffer base) = s
    else ∃ t, s.load buffer base = some t ∧ AgreesOffMemory t s ∧
      ∀ k, t.cell k = if base.toNat ≤ k ∧ k < base.toNat + buffer.length then buffer.getD (k - base.toNat) 0 else s.cell k
end

