-- ==== Sys2Proof/Laws/Cells.lean ====
section
/-!
SUPPORT. The laws of sparse byte arrays: a read after a write, that a write keeps the canonical form, and that canonical
arrays with equal entries are equal lists.
-/
namespace Sys2Proof.Machine

@[simp] theorem Cells.get_nil (k : Nat) : Cells.get [] k = 0 := rfl

@[simp] theorem Cells.get_cons (p : Host.Cell) (m : Cells) (k : Nat) :
    Cells.get (p :: m) k = if p.1 = k then p.2 else m.get k := rfl

/-- An array without an entry at `k` reads 0 there. -/
theorem Cells.get_absent {m : Cells} {k : Nat} (h : ∀ p ∈ m, p.1 ≠ k) : m.get k = 0 := by
  induction m with
  | nil => rfl
  | cons p m ih => simp [h p (by simp), ih fun q hq => h q (by simp [hq])]

@[simp] theorem Cells.get_erase (m : Cells) (k j : Nat) : (m.erase k).get j = if j = k then 0 else m.get j := by
  induction m with
  | nil => simp [Cells.erase]
  | cons p m ih => simp only [Cells.erase, List.filter_cons] at ih ⊢; grind [Cells.get]

theorem Cells.mem_erase {m : Cells} {k : Nat} {p : Host.Cell} : p ∈ m.erase k ↔ p ∈ m ∧ p.1 ≠ k := by
  simp [Cells.erase]

theorem Cells.mem_insert {m : Cells} {k : Nat} {v : Byte} {p : Host.Cell} : p ∈ m.insert k v ↔ p = (k, v) ∨ p ∈ m := by
  induction m with
  | nil => simp [Cells.insert]
  | cons q m ih => grind [Cells.insert]

theorem Cells.get_insert {m : Cells} {k : Nat} {v : Byte} (h : ∀ p ∈ m, p.1 ≠ k) (j : Nat) :
    (m.insert k v).get j = if j = k then v else m.get j := by
  induction m with
  | nil => simp [Cells.insert, eq_comm]
  | cons q m ih => grind [Cells.insert, Cells.get]

/-- A read after a write: the entry written holds the value, every other entry is as before. -/
@[simp] theorem Cells.get_set (m : Cells) (k : Nat) (v : Byte) (j : Nat) :
    (m.set k v).get j = if j = k then v else m.get j := by
  unfold Cells.set
  split
  · simp_all
  · rw [Cells.get_insert fun p hp => (Cells.mem_erase.1 hp).2]; grind [Cells.get_erase]

theorem Cells.wf_erase {bound : Nat} {m : Cells} (h : m.wf bound) (k : Nat) : (m.erase k).wf bound :=
  ⟨h.1.filter _, fun p hp => h.2 p (Cells.mem_erase.1 hp).1⟩

theorem Cells.wf_insert {bound : Nat} {m : Cells} {k : Nat} {v : Byte} (h : m.wf bound) (hm : ∀ p ∈ m, p.1 ≠ k)
    (hk : k < bound) (hv : v ≠ 0) : (m.insert k v).wf bound := by
  refine ⟨?_, fun p hp => ?_⟩
  · have h1 := h.1
    clear h
    induction m with
    | nil => simp [Cells.insert]
    | cons q m ih =>
      have hq := hm q (by simp)
      simp only [List.pairwise_cons] at h1
      unfold Cells.insert
      split
      · refine List.pairwise_cons.2 ⟨fun p hp => ?_, List.pairwise_cons.2 h1⟩
        rcases List.mem_cons.1 hp with rfl | hp
        · assumption
        · exact lt_trans ‹_› (h1.1 p hp)
      · refine List.pairwise_cons.2 ⟨fun p hp => ?_, ih (fun p hp => hm p (by simp [hp])) h1.2⟩
        rcases Cells.mem_insert.1 hp with rfl | hp
        · exact lt_of_le_of_ne (not_lt.1 ‹_›) hq
        · exact h1.1 p hp
  · rcases Cells.mem_insert.1 hp with rfl | hp
    · exact ⟨hk, hv⟩
    · exact h.2 p hp

/-- A write inside the array keeps the canonical form. -/
theorem Cells.wf_set {bound : Nat} {m : Cells} (h : m.wf bound) {k : Nat} (hk : k < bound) (v : Byte) :
    (m.set k v).wf bound := by
  unfold Cells.set
  split
  · exact Cells.wf_erase h k
  · exact Cells.wf_insert (Cells.wf_erase h k) (fun p hp => (Cells.mem_erase.1 hp).2) hk ‹_›

/-- Canonical arrays that read the same everywhere are the same list. -/
theorem Cells.eq_of_get_eq {bound : Nat} {m n : Cells} (hm : m.wf bound) (hn : n.wf bound)
    (h : ∀ k, m.get k = n.get k) : m = n := by
  induction m generalizing n with
  | nil =>
    cases n with
    | nil => rfl
    | cons q n => exact absurd (h q.1) (by simpa using (hn.2 q (by simp)).2.symm)
  | cons p m ih =>
    cases n with
    | nil => exact absurd (h p.1) (by simpa using (hm.2 p (by simp)).2)
    | cons q n =>
      have hp := List.pairwise_cons.1 hm.1
      have hq := List.pairwise_cons.1 hn.1
      have zero : ∀ {a : Nat} {l : Cells}, (∀ c ∈ l, a < c.1) → l.get a = 0 :=
        fun hl => Cells.get_absent fun c hc => (hl c hc).ne'
      have hpz := (hm.2 p (by simp)).2
      have hqz := (hn.2 q (by simp)).2
      have key : p.1 = q.1 := by
        rcases lt_trichotomy p.1 q.1 with hlt | heq | hlt
        · have := h p.1
          rw [Cells.get_cons, Cells.get_cons, if_pos rfl, if_neg hlt.ne', zero fun c hc => hlt.trans (hq.1 c hc)] at this
          exact absurd this hpz
        · exact heq
        · have := h q.1
          rw [Cells.get_cons, Cells.get_cons, if_pos rfl, if_neg hlt.ne', zero fun c hc => hlt.trans (hp.1 c hc)] at this
          exact absurd this.symm hqz
      have val : p.2 = q.2 := by simpa [key] using h p.1
      have tail : m = n := by
        refine ih ⟨hp.2, fun c hc => hm.2 c (by simp [hc])⟩ ⟨hq.2, fun c hc => hn.2 c (by simp [hc])⟩ fun k => ?_
        by_cases hk : p.1 = k
        · subst hk
          rw [zero hp.1, zero (key ▸ hq.1)]
        · simpa [hk, key ▸ hk] using h k
      rw [Prod.ext key val, tail]

end Sys2Proof.Machine
end

