-- ==== Sys2Proof/Laws/Forms.lean ====
section
/-!
SUPPORT. `exec` by the generic form of the opcode table: the induction over `Instr` with one case per form instead of one
per constructor, and one equation per form. A proof about every instruction starts with `induction i using Instr.byForm`.
-/
namespace Sys2Proof.Machine

/-- Induction over the instructions by generic form (the `form` column of the opcode table). -/
theorem Instr.byForm {motive : Instr → Prop}
    (mov : ∀ (dst src : Reg), motive (.mov dst src))
    (movFromM : ∀ (r : Reg), motive (.movFromM r))
    (movToM : ∀ (r : Reg), motive (.movToM r))
    (mvi : ∀ (x : Slot) (v : Byte), motive (.mvi x v))
    (lxi : ∀ (p : Pair) (w : Word), motive (.lxi p w))
    (lda : ∀ (w : Word), motive (.lda w))
    (sta : ∀ (w : Word), motive (.sta w))
    (lhld : ∀ (w : Word), motive (.lhld w))
    (shld : ∀ (w : Word), motive (.shld w))
    (ldax : ∀ (p : BasePair), motive (.ldax p))
    (stax : ∀ (p : BasePair), motive (.stax p))
    (xchg : motive (.xchg))
    (add : ∀ (x : Slot), motive (.add x))
    (adc : ∀ (x : Slot), motive (.adc x))
    (sub : ∀ (x : Slot), motive (.sub x))
    (sbb : ∀ (x : Slot), motive (.sbb x))
    (cmp : ∀ (x : Slot), motive (.cmp x))
    (adi : ∀ (v : Byte), motive (.adi v))
    (aci : ∀ (v : Byte), motive (.aci v))
    (sui : ∀ (v : Byte), motive (.sui v))
    (sbi : ∀ (v : Byte), motive (.sbi v))
    (cpi : ∀ (v : Byte), motive (.cpi v))
    (inr : ∀ (x : Slot), motive (.inr x))
    (dcr : ∀ (x : Slot), motive (.dcr x))
    (inx : ∀ (p : Pair), motive (.inx p))
    (dcx : ∀ (p : Pair), motive (.dcx p))
    (dad : ∀ (p : Pair), motive (.dad p))
    (daa : motive (.daa))
    (ana : ∀ (x : Slot), motive (.ana x))
    (xra : ∀ (x : Slot), motive (.xra x))
    (ora : ∀ (x : Slot), motive (.ora x))
    (ani : ∀ (v : Byte), motive (.ani v))
    (xri : ∀ (v : Byte), motive (.xri v))
    (ori : ∀ (v : Byte), motive (.ori v))
    (cma : motive (.cma))
    (stc : motive (.stc))
    (cmc : motive (.cmc))
    (rlc : motive (.rlc))
    (rrc : motive (.rrc))
    (ral : motive (.ral))
    (rar : motive (.rar))
    (push : ∀ (p : StackPair), motive (.push p))
    (pop : ∀ (p : StackPair), motive (.pop p))
    (xthl : motive (.xthl))
    (sphl : motive (.sphl))
    (jmp : ∀ (w : Word), motive (.jmp w))
    (jccc : ∀ (cond : Cond) (w : Word), motive (.jccc cond w))
    (call : ∀ (w : Word), motive (.call w))
    (cccc : ∀ (cond : Cond) (w : Word), motive (.cccc cond w))
    (ret : motive (.ret))
    (rccc : ∀ (cond : Cond), motive (.rccc cond))
    (rst : ∀ (n : Fin 8), motive (.rst n))
    (pchl : motive (.pchl))
    (nop : motive (.nop))
    (hlt : motive (.hlt))
    (ei : motive (.ei))
    (di : motive (.di))
    (inp : ∀ (p : Byte), motive (.inp p))
    (out : ∀ (p : Byte), motive (.out p))
    (unassigned : ∀ (op : Byte), motive (.unassigned op))
    (i : Instr) : motive i :=
  match i with
  | .nop => nop
  | .lxiB w => lxi .bc w
  | .staxB => stax .bc
  | .inxB => inx .bc
  | .inrB => inr (.reg .b)
  | .dcrB => dcr (.reg .b)
  | .mviB d8 => mvi (.reg .b) d8
  | .rlc => rlc
  | .unassigned op => unassigned op
  | .dadB => dad .bc
  | .ldaxB => ldax .bc
  | .dcxB => dcx .bc
  | .inrC => inr (.reg .c)
  | .dcrC => dcr (.reg .c)
  | .mviC d8 => mvi (.reg .c) d8
  | .rrc => rrc
  | .lxiD w => lxi .de w
  | .staxD => stax .de
  | .inxD => inx .de
  | .inrD => inr (.reg .d)
  | .dcrD => dcr (.reg .d)
  | .mviD d8 => mvi (.reg .d) d8
  | .ral => ral
  | .dadD => dad .de
  | .ldaxD => ldax .de
  | .dcxD => dcx .de
  | .inrE => inr (.reg .e)
  | .dcrE => dcr (.reg .e)
  | .mviE d8 => mvi (.reg .e) d8
  | .rar => rar
  | .lxiH w => lxi .hl w
  | .shld w => shld w
  | .inxH => inx .hl
  | .inrH => inr (.reg .h)
  | .dcrH => dcr (.reg .h)
  | .mviH d8 => mvi (.reg .h) d8
  | .daa => daa
  | .dadH => dad .hl
  | .lhld w => lhld w
  | .dcxH => dcx .hl
  | .inrL => inr (.reg .l)
  | .dcrL => dcr (.reg .l)
  | .mviL d8 => mvi (.reg .l) d8
  | .cma => cma
  | .lxiSP w => lxi .sp w
  | .sta w => sta w
  | .inxSP => inx .sp
  | .inrM => inr .m
  | .dcrM => dcr .m
  | .mviM d8 => mvi .m d8
  | .stc => stc
  | .dadSP => dad .sp
  | .lda w => lda w
  | .dcxSP => dcx .sp
  | .inrA => inr (.reg .a)
  | .dcrA => dcr (.reg .a)
  | .mviA d8 => mvi (.reg .a) d8
  | .cmc => cmc
  | .movBB => mov .b .b
  | .movBC => mov .b .c
  | .movBD => mov .b .d
  | .movBE => mov .b .e
  | .movBH => mov .b .h
  | .movBL => mov .b .l
  | .movBM => movFromM .b
  | .movBA => mov .b .a
  | .movCB => mov .c .b
  | .movCC => mov .c .c
  | .movCD => mov .c .d
  | .movCE => mov .c .e
  | .movCH => mov .c .h
  | .movCL => mov .c .l
  | .movCM => movFromM .c
  | .movCA => mov .c .a
  | .movDB => mov .d .b
  | .movDC => mov .d .c
  | .movDD => mov .d .d
  | .movDE => mov .d .e
  | .movDH => mov .d .h
  | .movDL => mov .d .l
  | .movDM => movFromM .d
  | .movDA => mov .d .a
  | .movEB => mov .e .b
  | .movEC => mov .e .c
  | .movED => mov .e .d
  | .movEE => mov .e .e
  | .movEH => mov .e .h
  | .movEL => mov .e .l
  | .movEM => movFromM .e
  | .movEA => mov .e .a
  | .movHB => mov .h .b
  | .movHC => mov .h .c
  | .movHD => mov .h .d
  | .movHE => mov .h .e
  | .movHH => mov .h .h
  | .movHL => mov .h .l
  | .movHM => movFromM .h
  | .movHA => mov .h .a
  | .movLB => mov .l .b
  | .movLC => mov .l .c
  | .movLD => mov .l .d
  | .movLE => mov .l .e
  | .movLH => mov .l .h
  | .movLL => mov .l .l
  | .movLM => movFromM .l
  | .movLA => mov .l .a
  | .movMB => movToM .b
  | .movMC => movToM .c
  | .movMD => movToM .d
  | .movME => movToM .e
  | .movMH => movToM .h
  | .movML => movToM .l
  | .hlt => hlt
  | .movMA => movToM .a
  | .movAB => mov .a .b
  | .movAC => mov .a .c
  | .movAD => mov .a .d
  | .movAE => mov .a .e
  | .movAH => mov .a .h
  | .movAL => mov .a .l
  | .movAM => movFromM .a
  | .movAA => mov .a .a
  | .addB => add (.reg .b)
  | .addC => add (.reg .c)
  | .addD => add (.reg .d)
  | .addE => add (.reg .e)
  | .addH => add (.reg .h)
  | .addL => add (.reg .l)
  | .addM => add .m
  | .addA => add (.reg .a)
  | .adcB => adc (.reg .b)
  | .adcC => adc (.reg .c)
  | .adcD => adc (.reg .d)
  | .adcE => adc (.reg .e)
  | .adcH => adc (.reg .h)
  | .adcL => adc (.reg .l)
  | .adcM => adc .m
  | .adcA => adc (.reg .a)
  | .subB => sub (.reg .b)
  | .subC => sub (.reg .c)
  | .subD => sub (.reg .d)
  | .subE => sub (.reg .e)
  | .subH => sub (.reg .h)
  | .subL => sub (.reg .l)
  | .subM => sub .m
  | .subA => sub (.reg .a)
  | .sbbB => sbb (.reg .b)
  | .sbbC => sbb (.reg .c)
  | .sbbD => sbb (.reg .d)
  | .sbbE => sbb (.reg .e)
  | .sbbH => sbb (.reg .h)
  | .sbbL => sbb (.reg .l)
  | .sbbM => sbb .m
  | .sbbA => sbb (.reg .a)
  | .anaB => ana (.reg .b)
  | .anaC => ana (.reg .c)
  | .anaD => ana (.reg .d)
  | .anaE => ana (.reg .e)
  | .anaH => ana (.reg .h)
  | .anaL => ana (.reg .l)
  | .anaM => ana .m
  | .anaA => ana (.reg .a)
  | .xraB => xra (.reg .b)
  | .xraC => xra (.reg .c)
  | .xraD => xra (.reg .d)
  | .xraE => xra (.reg .e)
  | .xraH => xra (.reg .h)
  | .xraL => xra (.reg .l)
  | .xraM => xra .m
  | .xraA => xra (.reg .a)
  | .oraB => ora (.reg .b)
  | .oraC => ora (.reg .c)
  | .oraD => ora (.reg .d)
  | .oraE => ora (.reg .e)
  | .oraH => ora (.reg .h)
  | .oraL => ora (.reg .l)
  | .oraM => ora .m
  | .oraA => ora (.reg .a)
  | .cmpB => cmp (.reg .b)
  | .cmpC => cmp (.reg .c)
  | .cmpD => cmp (.reg .d)
  | .cmpE => cmp (.reg .e)
  | .cmpH => cmp (.reg .h)
  | .cmpL => cmp (.reg .l)
  | .cmpM => cmp .m
  | .cmpA => cmp (.reg .a)
  | .rnz => rccc .nz
  | .popB => pop .bc
  | .jnz w => jccc .nz w
  | .jmp w => jmp w
  | .cnz w => cccc .nz w
  | .pushB => push .bc
  | .adi d8 => adi d8
  | .rst0 => rst 0
  | .rz => rccc .z
  | .ret => ret
  | .jz w => jccc .z w
  | .cz w => cccc .z w
  | .call w => call w
  | .aci d8 => aci d8
  | .rst1 => rst 1
  | .rnc => rccc .nc
  | .popD => pop .de
  | .jnc w => jccc .nc w
  | .out d8 => out d8
  | .cnc w => cccc .nc w
  | .pushD => push .de
  | .sui d8 => sui d8
  | .rst2 => rst 2
  | .rc => rccc .c
  | .jc w => jccc .c w
  | .inp d8 => inp d8
  | .cc w => cccc .c w
  | .sbi d8 => sbi d8
  | .rst3 => rst 3
  | .rpo => rccc .po
  | .popH => pop .hl
  | .jpo w => jccc .po w
  | .xthl => xthl
  | .cpo w => cccc .po w
  | .pushH => push .hl
  | .ani d8 => ani d8
  | .rst4 => rst 4
  | .rpe => rccc .pe
  | .pchl => pchl
  | .jpe w => jccc .pe w
  | .xchg => xchg
  | .cpe w => cccc .pe w
  | .xri d8 => xri d8
  | .rst5 => rst 5
  | .rp => rccc .p
  | .popPSW => pop .psw
  | .jp w => jccc .p w
  | .di => di
  | .cp w => cccc .p w
  | .pushPSW => push .psw
  | .ori d8 => ori d8
  | .rst6 => rst 6
  | .rm => rccc .m
  | .sphl => sphl
  | .jm w => jccc .m w
  | .ei => ei
  | .cm w => cccc .m w
  | .cpi d8 => cpi d8
  | .rst7 => rst 7

@[simp] theorem exec_mov (dst src : Reg) (s : State) : exec (.mov dst src) s = .next (s.moveReg dst src) := by cases dst <;> cases src <;> rfl
@[simp] theorem exec_movFromM (r : Reg) (s : State) : exec (.movFromM r) s = .next (s.loadReg r) := by cases r <;> rfl
@[simp] theorem exec_movToM (r : Reg) (s : State) : exec (.movToM r) s = .next (s.storeReg r) := by cases r <;> rfl
@[simp] theorem exec_mvi (x : Slot) (v : Byte) (s : State) : exec (.mvi x v) s = .next (s.moveImm x v) := by rcases x with r | _ <;> first | rfl | (cases r <;> rfl)
@[simp] theorem exec_lxi (p : Pair) (w : Word) (s : State) : exec (.lxi p w) s = .next (s.loadPairImm p w) := by cases p <;> rfl
@[simp] theorem exec_lda (w : Word) (s : State) : exec (.lda w) s = .next (s.loadAcc w 3) := rfl
@[simp] theorem exec_sta (w : Word) (s : State) : exec (.sta w) s = .next (s.storeAcc w 3) := rfl
@[simp] theorem exec_lhld (w : Word) (s : State) : exec (.lhld w) s = .next (s.loadHL w) := rfl
@[simp] theorem exec_shld (w : Word) (s : State) : exec (.shld w) s = .next (s.storeHL w) := rfl
@[simp] theorem exec_ldax (p : BasePair) (s : State) : exec (.ldax p) s = .next (s.loadAcc (s.readBase p) 1) := by cases p <;> rfl
@[simp] theorem exec_stax (p : BasePair) (s : State) : exec (.stax p) s = .next (s.storeAcc (s.readBase p) 1) := by cases p <;> rfl
@[simp] theorem exec_xchg (s : State) : exec (.xchg) s = .next (s.exchangeDE) := rfl
@[simp] theorem exec_add (x : Slot) (s : State) : exec (.add x) s = .next (s.addAcc (s.readSlot x) 1) := by rcases x with r | _ <;> first | rfl | (cases r <;> rfl)
@[simp] theorem exec_adc (x : Slot) (s : State) : exec (.adc x) s = .next (s.adcAcc (s.readSlot x) 1) := by rcases x with r | _ <;> first | rfl | (cases r <;> rfl)
@[simp] theorem exec_sub (x : Slot) (s : State) : exec (.sub x) s = .next (s.subAcc (s.readSlot x) 1) := by rcases x with r | _ <;> first | rfl | (cases r <;> rfl)
@[simp] theorem exec_sbb (x : Slot) (s : State) : exec (.sbb x) s = .next (s.sbbAcc (s.readSlot x) 1) := by rcases x with r | _ <;> first | rfl | (cases r <;> rfl)
@[simp] theorem exec_cmp (x : Slot) (s : State) : exec (.cmp x) s = .next (s.cmpAcc (s.readSlot x) 1) := by rcases x with r | _ <;> first | rfl | (cases r <;> rfl)
@[simp] theorem exec_adi (v : Byte) (s : State) : exec (.adi v) s = .next (s.addAcc v 2) := rfl
@[simp] theorem exec_aci (v : Byte) (s : State) : exec (.aci v) s = .next (s.adcAcc v 2) := rfl
@[simp] theorem exec_sui (v : Byte) (s : State) : exec (.sui v) s = .next (s.subAcc v 2) := rfl
@[simp] theorem exec_sbi (v : Byte) (s : State) : exec (.sbi v) s = .next (s.sbbAcc v 2) := rfl
@[simp] theorem exec_cpi (v : Byte) (s : State) : exec (.cpi v) s = .next (s.cmpAcc v 2) := rfl
@[simp] theorem exec_inr (x : Slot) (s : State) : exec (.inr x) s = .next (s.incSlot x) := by rcases x with r | _ <;> first | rfl | (cases r <;> rfl)
@[simp] theorem exec_dcr (x : Slot) (s : State) : exec (.dcr x) s = .next (s.decSlot x) := by rcases x with r | _ <;> first | rfl | (cases r <;> rfl)
@[simp] theorem exec_inx (p : Pair) (s : State) : exec (.inx p) s = .next (s.incPair p) := by cases p <;> rfl
@[simp] theorem exec_dcx (p : Pair) (s : State) : exec (.dcx p) s = .next (s.decPair p) := by cases p <;> rfl
@[simp] theorem exec_dad (p : Pair) (s : State) : exec (.dad p) s = .next (s.addPairToHL p) := by cases p <;> rfl
@[simp] theorem exec_daa (s : State) : exec (.daa) s = .next (s.setAcc (daa8 s.a s.flags) 1) := rfl
@[simp] theorem exec_ana (x : Slot) (s : State) : exec (.ana x) s = .next (s.logicAcc .and (s.readSlot x) 1) := by rcases x with r | _ <;> first | rfl | (cases r <;> rfl)
@[simp] theorem exec_xra (x : Slot) (s : State) : exec (.xra x) s = .next (s.logicAcc .xor (s.readSlot x) 1) := by rcases x with r | _ <;> first | rfl | (cases r <;> rfl)
@[simp] theorem exec_ora (x : Slot) (s : State) : exec (.ora x) s = .next (s.logicAcc .or (s.readSlot x) 1) := by rcases x with r | _ <;> first | rfl | (cases r <;> rfl)
@[simp] theorem exec_ani (v : Byte) (s : State) : exec (.ani v) s = .next (s.logicAcc .and v 2) := rfl
@[simp] theorem exec_xri (v : Byte) (s : State) : exec (.xri v) s = .next (s.logicAcc .xor v 2) := rfl
@[simp] theorem exec_ori (v : Byte) (s : State) : exec (.ori v) s = .next (s.logicAcc .or v 2) := rfl
@[simp] theorem exec_cma (s : State) : exec (.cma) s = .next (({ s with a := ~~~s.a } : State).advance 1) := rfl
@[simp] theorem exec_stc (s : State) : exec (.stc) s = .next (s.setCarry true) := rfl
@[simp] theorem exec_cmc (s : State) : exec (.cmc) s = .next (s.setCarry (!s.flags.cy)) := rfl
@[simp] theorem exec_rlc (s : State) : exec (.rlc) s = .next (s.rotateAcc (rotLeft s.a)) := rfl
@[simp] theorem exec_rrc (s : State) : exec (.rrc) s = .next (s.rotateAcc (rotRight s.a)) := rfl
@[simp] theorem exec_ral (s : State) : exec (.ral) s = .next (s.rotateAcc (rotLeftCarry s.a s.flags.cy)) := rfl
@[simp] theorem exec_rar (s : State) : exec (.rar) s = .next (s.rotateAcc (rotRightCarry s.a s.flags.cy)) := rfl
@[simp] theorem exec_push (p : StackPair) (s : State) : exec (.push p) s = .next (s.pushPair p) := by cases p <;> rfl
@[simp] theorem exec_pop (p : StackPair) (s : State) : exec (.pop p) s = .next (s.popPair p) := by cases p <;> rfl
@[simp] theorem exec_xthl (s : State) : exec (.xthl) s = .next (s.exchangeTop) := rfl
@[simp] theorem exec_sphl (s : State) : exec (.sphl) s = .next (({ s with sp := s.hl } : State).advance 1) := rfl
@[simp] theorem exec_jmp (w : Word) (s : State) : exec (.jmp w) s = .next (s.jumpTo w) := rfl
@[simp] theorem exec_jccc (cond : Cond) (w : Word) (s : State) : exec (.jccc cond w) s = .next (s.jumpIf cond w) := by cases cond <;> rfl
@[simp] theorem exec_call (w : Word) (s : State) : exec (.call w) s = .next (s.callTo (s.pc + 3) w) := rfl
@[simp] theorem exec_cccc (cond : Cond) (w : Word) (s : State) : exec (.cccc cond w) s = .next (s.callIf cond w) := by cases cond <;> rfl
@[simp] theorem exec_ret (s : State) : exec (.ret) s = .next (s.returnFrom) := rfl
@[simp] theorem exec_rccc (cond : Cond) (s : State) : exec (.rccc cond) s = .next (s.returnIf cond) := by cases cond <;> rfl
@[simp] theorem exec_rst (n : Fin 8) (s : State) : exec (.rst n) s = .next (s.enterVector (s.pc + 1) n) := by fin_cases n <;> rfl
@[simp] theorem exec_pchl (s : State) : exec (.pchl) s = .next (s.jumpTo s.hl) := rfl
@[simp] theorem exec_nop (s : State) : exec (.nop) s = .next (s.advance 1) := rfl
@[simp] theorem exec_hlt (s : State) : exec (.hlt) s = .next (({ s with halted := true } : State).advance 1) := rfl
@[simp] theorem exec_ei (s : State) : exec (.ei) s = .next (({ s with ie := true } : State).advance 1) := rfl
@[simp] theorem exec_di (s : State) : exec (.di) s = .next (({ s with ie := false } : State).advance 1) := rfl
@[simp] theorem exec_inp (p : Byte) (s : State) : exec (.inp p) s = .next (s.inputWith none p) := rfl
@[simp] theorem exec_out (p : Byte) (s : State) : exec (.out p) s = .next (s.outputWith [] p) := rfl
@[simp] theorem exec_unassigned (op : Byte) (s : State) : exec (.unassigned op) s = .fault (.unknownOpcode op s.pc) := rfl

end Sys2Proof.Machine
end

