-- ==== Sys2Proof/Laws/State.lean ====
section
/-!
SUPPORT. One lemma per field of State per update operation, and per view of it, so that no proof unfolds a record update.
Generated field by field; where an operation decides a field by its operand, that field has its lemma in Laws/Operations.lean.
-/
namespace Sys2Proof.Machine

/-! PC -/

@[simp] theorem State.advance_a (s : State) (len : Word) : (s.advance len).a = s.a := rfl
@[simp] theorem State.advance_b (s : State) (len : Word) : (s.advance len).b = s.b := rfl
@[simp] theorem State.advance_c (s : State) (len : Word) : (s.advance len).c = s.c := rfl
@[simp] theorem State.advance_d (s : State) (len : Word) : (s.advance len).d = s.d := rfl
@[simp] theorem State.advance_e (s : State) (len : Word) : (s.advance len).e = s.e := rfl
@[simp] theorem State.advance_h (s : State) (len : Word) : (s.advance len).h = s.h := rfl
@[simp] theorem State.advance_l (s : State) (len : Word) : (s.advance len).l = s.l := rfl
@[simp] theorem State.advance_pc (s : State) (len : Word) : (s.advance len).pc = s.pc + len := rfl
@[simp] theorem State.advance_sp (s : State) (len : Word) : (s.advance len).sp = s.sp := rfl
@[simp] theorem State.advance_flags (s : State) (len : Word) : (s.advance len).flags = s.flags := rfl
@[simp] theorem State.advance_ie (s : State) (len : Word) : (s.advance len).ie = s.ie := rfl
@[simp] theorem State.advance_halted (s : State) (len : Word) : (s.advance len).halted = s.halted := rfl
@[simp] theorem State.advance_mem (s : State) (len : Word) : (s.advance len).mem = s.mem := rfl
@[simp] theorem State.advance_inPort (s : State) (len : Word) : (s.advance len).inPort = s.inPort := rfl
@[simp] theorem State.advance_outPort (s : State) (len : Word) : (s.advance len).outPort = s.outPort := rfl
@[simp] theorem State.advance_cycles (s : State) (len : Word) : (s.advance len).cycles = s.cycles := rfl
@[simp] theorem State.advance_instrs (s : State) (len : Word) : (s.advance len).instrs = s.instrs := rfl

@[simp] theorem State.jumpTo_a (s : State) (w : Word) : (s.jumpTo w).a = s.a := rfl
@[simp] theorem State.jumpTo_b (s : State) (w : Word) : (s.jumpTo w).b = s.b := rfl
@[simp] theorem State.jumpTo_c (s : State) (w : Word) : (s.jumpTo w).c = s.c := rfl
@[simp] theorem State.jumpTo_d (s : State) (w : Word) : (s.jumpTo w).d = s.d := rfl
@[simp] theorem State.jumpTo_e (s : State) (w : Word) : (s.jumpTo w).e = s.e := rfl
@[simp] theorem State.jumpTo_h (s : State) (w : Word) : (s.jumpTo w).h = s.h := rfl
@[simp] theorem State.jumpTo_l (s : State) (w : Word) : (s.jumpTo w).l = s.l := rfl
@[simp] theorem State.jumpTo_pc (s : State) (w : Word) : (s.jumpTo w).pc = w := rfl
@[simp] theorem State.jumpTo_sp (s : State) (w : Word) : (s.jumpTo w).sp = s.sp := rfl
@[simp] theorem State.jumpTo_flags (s : State) (w : Word) : (s.jumpTo w).flags = s.flags := rfl
@[simp] theorem State.jumpTo_ie (s : State) (w : Word) : (s.jumpTo w).ie = s.ie := rfl
@[simp] theorem State.jumpTo_halted (s : State) (w : Word) : (s.jumpTo w).halted = s.halted := rfl
@[simp] theorem State.jumpTo_mem (s : State) (w : Word) : (s.jumpTo w).mem = s.mem := rfl
@[simp] theorem State.jumpTo_inPort (s : State) (w : Word) : (s.jumpTo w).inPort = s.inPort := rfl
@[simp] theorem State.jumpTo_outPort (s : State) (w : Word) : (s.jumpTo w).outPort = s.outPort := rfl
@[simp] theorem State.jumpTo_cycles (s : State) (w : Word) : (s.jumpTo w).cycles = s.cycles := rfl
@[simp] theorem State.jumpTo_instrs (s : State) (w : Word) : (s.jumpTo w).instrs = s.instrs := rfl

/-! Memory -/

@[simp] theorem State.pokeByte_a (s : State) (a : Word) (v : Byte) : (s.pokeByte a v).a = s.a := rfl
@[simp] theorem State.pokeByte_b (s : State) (a : Word) (v : Byte) : (s.pokeByte a v).b = s.b := rfl
@[simp] theorem State.pokeByte_c (s : State) (a : Word) (v : Byte) : (s.pokeByte a v).c = s.c := rfl
@[simp] theorem State.pokeByte_d (s : State) (a : Word) (v : Byte) : (s.pokeByte a v).d = s.d := rfl
@[simp] theorem State.pokeByte_e (s : State) (a : Word) (v : Byte) : (s.pokeByte a v).e = s.e := rfl
@[simp] theorem State.pokeByte_h (s : State) (a : Word) (v : Byte) : (s.pokeByte a v).h = s.h := rfl
@[simp] theorem State.pokeByte_l (s : State) (a : Word) (v : Byte) : (s.pokeByte a v).l = s.l := rfl
@[simp] theorem State.pokeByte_pc (s : State) (a : Word) (v : Byte) : (s.pokeByte a v).pc = s.pc := rfl
@[simp] theorem State.pokeByte_sp (s : State) (a : Word) (v : Byte) : (s.pokeByte a v).sp = s.sp := rfl
@[simp] theorem State.pokeByte_flags (s : State) (a : Word) (v : Byte) : (s.pokeByte a v).flags = s.flags := rfl
@[simp] theorem State.pokeByte_ie (s : State) (a : Word) (v : Byte) : (s.pokeByte a v).ie = s.ie := rfl
@[simp] theorem State.pokeByte_halted (s : State) (a : Word) (v : Byte) : (s.pokeByte a v).halted = s.halted := rfl
@[simp] theorem State.pokeByte_mem (s : State) (a : Word) (v : Byte) : (s.pokeByte a v).mem = Cells.set s.mem (phys a).toNat v := rfl
@[simp] theorem State.pokeByte_inPort (s : State) (a : Word) (v : Byte) : (s.pokeByte a v).inPort = s.inPort := rfl
@[simp] theorem State.pokeByte_outPort (s : State) (a : Word) (v : Byte) : (s.pokeByte a v).outPort = s.outPort := rfl
@[simp] theorem State.pokeByte_cycles (s : State) (a : Word) (v : Byte) : (s.pokeByte a v).cycles = s.cycles := rfl
@[simp] theorem State.pokeByte_instrs (s : State) (a : Word) (v : Byte) : (s.pokeByte a v).instrs = s.instrs := rfl

@[simp] theorem State.writeByte_a (s : State) (a : Word) (v : Byte) : (s.writeByte a v).a = s.a := by unfold State.writeByte; split <;> rfl
@[simp] theorem State.writeByte_b (s : State) (a : Word) (v : Byte) : (s.writeByte a v).b = s.b := by unfold State.writeByte; split <;> rfl
@[simp] theorem State.writeByte_c (s : State) (a : Word) (v : Byte) : (s.writeByte a v).c = s.c := by unfold State.writeByte; split <;> rfl
@[simp] theorem State.writeByte_d (s : State) (a : Word) (v : Byte) : (s.writeByte a v).d = s.d := by unfold State.writeByte; split <;> rfl
@[simp] theorem State.writeByte_e (s : State) (a : Word) (v : Byte) : (s.writeByte a v).e = s.e := by unfold State.writeByte; split <;> rfl
@[simp] theorem State.writeByte_h (s : State) (a : Word) (v : Byte) : (s.writeByte a v).h = s.h := by unfold State.writeByte; split <;> rfl
@[simp] theorem State.writeByte_l (s : State) (a : Word) (v : Byte) : (s.writeByte a v).l = s.l := by unfold State.writeByte; split <;> rfl
@[simp] theorem State.writeByte_pc (s : State) (a : Word) (v : Byte) : (s.writeByte a v).pc = s.pc := by unfold State.writeByte; split <;> rfl
@[simp] theorem State.writeByte_sp (s : State) (a : Word) (v : Byte) : (s.writeByte a v).sp = s.sp := by unfold State.writeByte; split <;> rfl
@[simp] theorem State.writeByte_flags (s : State) (a : Word) (v : Byte) : (s.writeByte a v).flags = s.flags := by unfold State.writeByte; split <;> rfl
@[simp] theorem State.writeByte_ie (s : State) (a : Word) (v : Byte) : (s.writeByte a v).ie = s.ie := by unfold State.writeByte; split <;> rfl
@[simp] theorem State.writeByte_halted (s : State) (a : Word) (v : Byte) : (s.writeByte a v).halted = s.halted := by unfold State.writeByte; split <;> rfl
@[simp] theorem State.writeByte_inPort (s : State) (a : Word) (v : Byte) : (s.writeByte a v).inPort = s.inPort := by unfold State.writeByte; split <;> rfl
@[simp] theorem State.writeByte_outPort (s : State) (a : Word) (v : Byte) : (s.writeByte a v).outPort = s.outPort := by unfold State.writeByte; split <;> rfl
@[simp] theorem State.writeByte_cycles (s : State) (a : Word) (v : Byte) : (s.writeByte a v).cycles = s.cycles := by unfold State.writeByte; split <;> rfl
@[simp] theorem State.writeByte_instrs (s : State) (a : Word) (v : Byte) : (s.writeByte a v).instrs = s.instrs := by unfold State.writeByte; split <;> rfl

@[simp] theorem State.writeWord_a (s : State) (a w : Word) : (s.writeWord a w).a = s.a := by simp [State.writeWord]
@[simp] theorem State.writeWord_b (s : State) (a w : Word) : (s.writeWord a w).b = s.b := by simp [State.writeWord]
@[simp] theorem State.writeWord_c (s : State) (a w : Word) : (s.writeWord a w).c = s.c := by simp [State.writeWord]
@[simp] theorem State.writeWord_d (s : State) (a w : Word) : (s.writeWord a w).d = s.d := by simp [State.writeWord]
@[simp] theorem State.writeWord_e (s : State) (a w : Word) : (s.writeWord a w).e = s.e := by simp [State.writeWord]
@[simp] theorem State.writeWord_h (s : State) (a w : Word) : (s.writeWord a w).h = s.h := by simp [State.writeWord]
@[simp] theorem State.writeWord_l (s : State) (a w : Word) : (s.writeWord a w).l = s.l := by simp [State.writeWord]
@[simp] theorem State.writeWord_pc (s : State) (a w : Word) : (s.writeWord a w).pc = s.pc := by simp [State.writeWord]
@[simp] theorem State.writeWord_sp (s : State) (a w : Word) : (s.writeWord a w).sp = s.sp := by simp [State.writeWord]
@[simp] theorem State.writeWord_flags (s : State) (a w : Word) : (s.writeWord a w).flags = s.flags := by simp [State.writeWord]
@[simp] theorem State.writeWord_ie (s : State) (a w : Word) : (s.writeWord a w).ie = s.ie := by simp [State.writeWord]
@[simp] theorem State.writeWord_halted (s : State) (a w : Word) : (s.writeWord a w).halted = s.halted := by simp [State.writeWord]
@[simp] theorem State.writeWord_inPort (s : State) (a w : Word) : (s.writeWord a w).inPort = s.inPort := by simp [State.writeWord]
@[simp] theorem State.writeWord_outPort (s : State) (a w : Word) : (s.writeWord a w).outPort = s.outPort := by simp [State.writeWord]
@[simp] theorem State.writeWord_cycles (s : State) (a w : Word) : (s.writeWord a w).cycles = s.cycles := by simp [State.writeWord]
@[simp] theorem State.writeWord_instrs (s : State) (a w : Word) : (s.writeWord a w).instrs = s.instrs := by simp [State.writeWord]

/-! Stack and control transfer -/

@[simp] theorem State.push16_a (s : State) (w : Word) : (s.push16 w).a = s.a := by simp [State.push16]
@[simp] theorem State.push16_b (s : State) (w : Word) : (s.push16 w).b = s.b := by simp [State.push16]
@[simp] theorem State.push16_c (s : State) (w : Word) : (s.push16 w).c = s.c := by simp [State.push16]
@[simp] theorem State.push16_d (s : State) (w : Word) : (s.push16 w).d = s.d := by simp [State.push16]
@[simp] theorem State.push16_e (s : State) (w : Word) : (s.push16 w).e = s.e := by simp [State.push16]
@[simp] theorem State.push16_h (s : State) (w : Word) : (s.push16 w).h = s.h := by simp [State.push16]
@[simp] theorem State.push16_l (s : State) (w : Word) : (s.push16 w).l = s.l := by simp [State.push16]
@[simp] theorem State.push16_pc (s : State) (w : Word) : (s.push16 w).pc = s.pc := by simp [State.push16]
@[simp] theorem State.push16_sp (s : State) (w : Word) : (s.push16 w).sp = s.sp - 2 := by simp [State.push16]
@[simp] theorem State.push16_flags (s : State) (w : Word) : (s.push16 w).flags = s.flags := by simp [State.push16]
@[simp] theorem State.push16_ie (s : State) (w : Word) : (s.push16 w).ie = s.ie := by simp [State.push16]
@[simp] theorem State.push16_halted (s : State) (w : Word) : (s.push16 w).halted = s.halted := by simp [State.push16]
@[simp] theorem State.push16_inPort (s : State) (w : Word) : (s.push16 w).inPort = s.inPort := by simp [State.push16]
@[simp] theorem State.push16_outPort (s : State) (w : Word) : (s.push16 w).outPort = s.outPort := by simp [State.push16]
@[simp] theorem State.push16_cycles (s : State) (w : Word) : (s.push16 w).cycles = s.cycles := by simp [State.push16]
@[simp] theorem State.push16_instrs (s : State) (w : Word) : (s.push16 w).instrs = s.instrs := by simp [State.push16]

@[simp] theorem State.callTo_a (s : State) (ret w : Word) : (s.callTo ret w).a = s.a := by simp [State.callTo]
@[simp] theorem State.callTo_b (s : State) (ret w : Word) : (s.callTo ret w).b = s.b := by simp [State.callTo]
@[simp] theorem State.callTo_c (s : State) (ret w : Word) : (s.callTo ret w).c = s.c := by simp [State.callTo]
@[simp] theorem State.callTo_d (s : State) (ret w : Word) : (s.callTo ret w).d = s.d := by simp [State.callTo]
@[simp] theorem State.callTo_e (s : State) (ret w : Word) : (s.callTo ret w).e = s.e := by simp [State.callTo]
@[simp] theorem State.callTo_h (s : State) (ret w : Word) : (s.callTo ret w).h = s.h := by simp [State.callTo]
@[simp] theorem State.callTo_l (s : State) (ret w : Word) : (s.callTo ret w).l = s.l := by simp [State.callTo]
@[simp] theorem State.callTo_pc (s : State) (ret w : Word) : (s.callTo ret w).pc = w := by simp [State.callTo]
@[simp] theorem State.callTo_sp (s : State) (ret w : Word) : (s.callTo ret w).sp = s.sp - 2 := by simp [State.callTo]
@[simp] theorem State.callTo_flags (s : State) (ret w : Word) : (s.callTo ret w).flags = s.flags := by simp [State.callTo]
@[simp] theorem State.callTo_ie (s : State) (ret w : Word) : (s.callTo ret w).ie = s.ie := by simp [State.callTo]
@[simp] theorem State.callTo_halted (s : State) (ret w : Word) : (s.callTo ret w).halted = s.halted := by simp [State.callTo]
@[simp] theorem State.callTo_inPort (s : State) (ret w : Word) : (s.callTo ret w).inPort = s.inPort := by simp [State.callTo]
@[simp] theorem State.callTo_outPort (s : State) (ret w : Word) : (s.callTo ret w).outPort = s.outPort := by simp [State.callTo]
@[simp] theorem State.callTo_cycles (s : State) (ret w : Word) : (s.callTo ret w).cycles = s.cycles := by simp [State.callTo]
@[simp] theorem State.callTo_instrs (s : State) (ret w : Word) : (s.callTo ret w).instrs = s.instrs := by simp [State.callTo]

@[simp] theorem State.enterVector_a (s : State) (ret : Word) (n : Fin 8) : (s.enterVector ret n).a = s.a := by simp [State.enterVector]
@[simp] theorem State.enterVector_b (s : State) (ret : Word) (n : Fin 8) : (s.enterVector ret n).b = s.b := by simp [State.enterVector]
@[simp] theorem State.enterVector_c (s : State) (ret : Word) (n : Fin 8) : (s.enterVector ret n).c = s.c := by simp [State.enterVector]
@[simp] theorem State.enterVector_d (s : State) (ret : Word) (n : Fin 8) : (s.enterVector ret n).d = s.d := by simp [State.enterVector]
@[simp] theorem State.enterVector_e (s : State) (ret : Word) (n : Fin 8) : (s.enterVector ret n).e = s.e := by simp [State.enterVector]
@[simp] theorem State.enterVector_h (s : State) (ret : Word) (n : Fin 8) : (s.enterVector ret n).h = s.h := by simp [State.enterVector]
@[simp] theorem State.enterVector_l (s : State) (ret : Word) (n : Fin 8) : (s.enterVector ret n).l = s.l := by simp [State.enterVector]
@[simp] theorem State.enterVector_pc (s : State) (ret : Word) (n : Fin 8) : (s.enterVector ret n).pc = vectorAddress n := by simp [State.enterVector]
@[simp] theorem State.enterVector_sp (s : State) (ret : Word) (n : Fin 8) : (s.enterVector ret n).sp = s.sp - 2 := by simp [State.enterVector]
@[simp] theorem State.enterVector_flags (s : State) (ret : Word) (n : Fin 8) : (s.enterVector ret n).flags = s.flags := by simp [State.enterVector]
@[simp] theorem State.enterVector_ie (s : State) (ret : Word) (n : Fin 8) : (s.enterVector ret n).ie = s.ie := by simp [State.enterVector]
@[simp] theorem State.enterVector_halted (s : State) (ret : Word) (n : Fin 8) : (s.enterVector ret n).halted = s.halted := by simp [State.enterVector]
@[simp] theorem State.enterVector_inPort (s : State) (ret : Word) (n : Fin 8) : (s.enterVector ret n).inPort = s.inPort := by simp [State.enterVector]
@[simp] theorem State.enterVector_outPort (s : State) (ret : Word) (n : Fin 8) : (s.enterVector ret n).outPort = s.outPort := by simp [State.enterVector]
@[simp] theorem State.enterVector_cycles (s : State) (ret : Word) (n : Fin 8) : (s.enterVector ret n).cycles = s.cycles := by simp [State.enterVector]
@[simp] theorem State.enterVector_instrs (s : State) (ret : Word) (n : Fin 8) : (s.enterVector ret n).instrs = s.instrs := by simp [State.enterVector]

@[simp] theorem State.returnFrom_a (s : State) : (s.returnFrom).a = s.a := rfl
@[simp] theorem State.returnFrom_b (s : State) : (s.returnFrom).b = s.b := rfl
@[simp] theorem State.returnFrom_c (s : State) : (s.returnFrom).c = s.c := rfl
@[simp] theorem State.returnFrom_d (s : State) : (s.returnFrom).d = s.d := rfl
@[simp] theorem State.returnFrom_e (s : State) : (s.returnFrom).e = s.e := rfl
@[simp] theorem State.returnFrom_h (s : State) : (s.returnFrom).h = s.h := rfl
@[simp] theorem State.returnFrom_l (s : State) : (s.returnFrom).l = s.l := rfl
@[simp] theorem State.returnFrom_pc (s : State) : (s.returnFrom).pc = s.readWord s.sp := rfl
@[simp] theorem State.returnFrom_sp (s : State) : (s.returnFrom).sp = s.sp + 2 := rfl
@[simp] theorem State.returnFrom_flags (s : State) : (s.returnFrom).flags = s.flags := rfl
@[simp] theorem State.returnFrom_ie (s : State) : (s.returnFrom).ie = s.ie := rfl
@[simp] theorem State.returnFrom_halted (s : State) : (s.returnFrom).halted = s.halted := rfl
@[simp] theorem State.returnFrom_mem (s : State) : (s.returnFrom).mem = s.mem := rfl
@[simp] theorem State.returnFrom_inPort (s : State) : (s.returnFrom).inPort = s.inPort := rfl
@[simp] theorem State.returnFrom_outPort (s : State) : (s.returnFrom).outPort = s.outPort := rfl
@[simp] theorem State.returnFrom_cycles (s : State) : (s.returnFrom).cycles = s.cycles := rfl
@[simp] theorem State.returnFrom_instrs (s : State) : (s.returnFrom).instrs = s.instrs := rfl

/-! Registers and pairs -/

@[simp] theorem State.writeReg_pc (s : State) (r : Reg) (v : Byte) : (s.writeReg r v).pc = s.pc := by cases r <;> rfl
@[simp] theorem State.writeReg_sp (s : State) (r : Reg) (v : Byte) : (s.writeReg r v).sp = s.sp := by cases r <;> rfl
@[simp] theorem State.writeReg_flags (s : State) (r : Reg) (v : Byte) : (s.writeReg r v).flags = s.flags := by cases r <;> rfl
@[simp] theorem State.writeReg_ie (s : State) (r : Reg) (v : Byte) : (s.writeReg r v).ie = s.ie := by cases r <;> rfl
@[simp] theorem State.writeReg_halted (s : State) (r : Reg) (v : Byte) : (s.writeReg r v).halted = s.halted := by cases r <;> rfl
@[simp] theorem State.writeReg_mem (s : State) (r : Reg) (v : Byte) : (s.writeReg r v).mem = s.mem := by cases r <;> rfl
@[simp] theorem State.writeReg_inPort (s : State) (r : Reg) (v : Byte) : (s.writeReg r v).inPort = s.inPort := by cases r <;> rfl
@[simp] theorem State.writeReg_outPort (s : State) (r : Reg) (v : Byte) : (s.writeReg r v).outPort = s.outPort := by cases r <;> rfl
@[simp] theorem State.writeReg_cycles (s : State) (r : Reg) (v : Byte) : (s.writeReg r v).cycles = s.cycles := by cases r <;> rfl
@[simp] theorem State.writeReg_instrs (s : State) (r : Reg) (v : Byte) : (s.writeReg r v).instrs = s.instrs := by cases r <;> rfl

@[simp] theorem State.setBC_a (s : State) (w : Word) : (s.setBC w).a = s.a := rfl
@[simp] theorem State.setBC_b (s : State) (w : Word) : (s.setBC w).b = highByte w := rfl
@[simp] theorem State.setBC_c (s : State) (w : Word) : (s.setBC w).c = lowByte w := rfl
@[simp] theorem State.setBC_d (s : State) (w : Word) : (s.setBC w).d = s.d := rfl
@[simp] theorem State.setBC_e (s : State) (w : Word) : (s.setBC w).e = s.e := rfl
@[simp] theorem State.setBC_h (s : State) (w : Word) : (s.setBC w).h = s.h := rfl
@[simp] theorem State.setBC_l (s : State) (w : Word) : (s.setBC w).l = s.l := rfl
@[simp] theorem State.setBC_pc (s : State) (w : Word) : (s.setBC w).pc = s.pc := rfl
@[simp] theorem State.setBC_sp (s : State) (w : Word) : (s.setBC w).sp = s.sp := rfl
@[simp] theorem State.setBC_flags (s : State) (w : Word) : (s.setBC w).flags = s.flags := rfl
@[simp] theorem State.setBC_ie (s : State) (w : Word) : (s.setBC w).ie = s.ie := rfl
@[simp] theorem State.setBC_halted (s : State) (w : Word) : (s.setBC w).halted = s.halted := rfl
@[simp] theorem State.setBC_mem (s : State) (w : Word) : (s.setBC w).mem = s.mem := rfl
@[simp] theorem State.setBC_inPort (s : State) (w : Word) : (s.setBC w).inPort = s.inPort := rfl
@[simp] theorem State.setBC_outPort (s : State) (w : Word) : (s.setBC w).outPort = s.outPort := rfl
@[simp] theorem State.setBC_cycles (s : State) (w : Word) : (s.setBC w).cycles = s.cycles := rfl
@[simp] theorem State.setBC_instrs (s : State) (w : Word) : (s.setBC w).instrs = s.instrs := rfl

@[simp] theorem State.setDE_a (s : State) (w : Word) : (s.setDE w).a = s.a := rfl
@[simp] theorem State.setDE_b (s : State) (w : Word) : (s.setDE w).b = s.b := rfl
@[simp] theorem State.setDE_c (s : State) (w : Word) : (s.setDE w).c = s.c := rfl
@[simp] theorem State.setDE_d (s : State) (w : Word) : (s.setDE w).d = highByte w := rfl
@[simp] theorem State.setDE_e (s : State) (w : Word) : (s.setDE w).e = lowByte w := rfl
@[simp] theorem State.setDE_h (s : State) (w : Word) : (s.setDE w).h = s.h := rfl
@[simp] theorem State.setDE_l (s : State) (w : Word) : (s.setDE w).l = s.l := rfl
@[simp] theorem State.setDE_pc (s : State) (w : Word) : (s.setDE w).pc = s.pc := rfl
@[simp] theorem State.setDE_sp (s : State) (w : Word) : (s.setDE w).sp = s.sp := rfl
@[simp] theorem State.setDE_flags (s : State) (w : Word) : (s.setDE w).flags = s.flags := rfl
@[simp] theorem State.setDE_ie (s : State) (w : Word) : (s.setDE w).ie = s.ie := rfl
@[simp] theorem State.setDE_halted (s : State) (w : Word) : (s.setDE w).halted = s.halted := rfl
@[simp] theorem State.setDE_mem (s : State) (w : Word) : (s.setDE w).mem = s.mem := rfl
@[simp] theorem State.setDE_inPort (s : State) (w : Word) : (s.setDE w).inPort = s.inPort := rfl
@[simp] theorem State.setDE_outPort (s : State) (w : Word) : (s.setDE w).outPort = s.outPort := rfl
@[simp] theorem State.setDE_cycles (s : State) (w : Word) : (s.setDE w).cycles = s.cycles := rfl
@[simp] theorem State.setDE_instrs (s : State) (w : Word) : (s.setDE w).instrs = s.instrs := rfl

@[simp] theorem State.setHL_a (s : State) (w : Word) : (s.setHL w).a = s.a := rfl
@[simp] theorem State.setHL_b (s : State) (w : Word) : (s.setHL w).b = s.b := rfl
@[simp] theorem State.setHL_c (s : State) (w : Word) : (s.setHL w).c = s.c := rfl
@[simp] theorem State.setHL_d (s : State) (w : Word) : (s.setHL w).d = s.d := rfl
@[simp] theorem State.setHL_e (s : State) (w : Word) : (s.setHL w).e = s.e := rfl
@[simp] theorem State.setHL_h (s : State) (w : Word) : (s.setHL w).h = highByte w := rfl
@[simp] theorem State.setHL_l (s : State) (w : Word) : (s.setHL w).l = lowByte w := rfl
@[simp] theorem State.setHL_pc (s : State) (w : Word) : (s.setHL w).pc = s.pc := rfl
@[simp] theorem State.setHL_sp (s : State) (w : Word) : (s.setHL w).sp = s.sp := rfl
@[simp] theorem State.setHL_flags (s : State) (w : Word) : (s.setHL w).flags = s.flags := rfl
@[simp] theorem State.setHL_ie (s : State) (w : Word) : (s.setHL w).ie = s.ie := rfl
@[simp] theorem State.setHL_halted (s : State) (w : Word) : (s.setHL w).halted = s.halted := rfl
@[simp] theorem State.setHL_mem (s : State) (w : Word) : (s.setHL w).mem = s.mem := rfl
@[simp] theorem State.setHL_inPort (s : State) (w : Word) : (s.setHL w).inPort = s.inPort := rfl
@[simp] theorem State.setHL_outPort (s : State) (w : Word) : (s.setHL w).outPort = s.outPort := rfl
@[simp] theorem State.setHL_cycles (s : State) (w : Word) : (s.setHL w).cycles = s.cycles := rfl
@[simp] theorem State.setHL_instrs (s : State) (w : Word) : (s.setHL w).instrs = s.instrs := rfl

@[simp] theorem State.writePair_a (s : State) (p : Pair) (w : Word) : (s.writePair p w).a = s.a := by cases p <;> rfl
@[simp] theorem State.writePair_pc (s : State) (p : Pair) (w : Word) : (s.writePair p w).pc = s.pc := by cases p <;> rfl
@[simp] theorem State.writePair_flags (s : State) (p : Pair) (w : Word) : (s.writePair p w).flags = s.flags := by cases p <;> rfl
@[simp] theorem State.writePair_ie (s : State) (p : Pair) (w : Word) : (s.writePair p w).ie = s.ie := by cases p <;> rfl
@[simp] theorem State.writePair_halted (s : State) (p : Pair) (w : Word) : (s.writePair p w).halted = s.halted := by cases p <;> rfl
@[simp] theorem State.writePair_mem (s : State) (p : Pair) (w : Word) : (s.writePair p w).mem = s.mem := by cases p <;> rfl
@[simp] theorem State.writePair_inPort (s : State) (p : Pair) (w : Word) : (s.writePair p w).inPort = s.inPort := by cases p <;> rfl
@[simp] theorem State.writePair_outPort (s : State) (p : Pair) (w : Word) : (s.writePair p w).outPort = s.outPort := by cases p <;> rfl
@[simp] theorem State.writePair_cycles (s : State) (p : Pair) (w : Word) : (s.writePair p w).cycles = s.cycles := by cases p <;> rfl
@[simp] theorem State.writePair_instrs (s : State) (p : Pair) (w : Word) : (s.writePair p w).instrs = s.instrs := by cases p <;> rfl

@[simp] theorem State.writeStackPair_pc (s : State) (p : StackPair) (w : Word) : (s.writeStackPair p w).pc = s.pc := by cases p <;> rfl
@[simp] theorem State.writeStackPair_sp (s : State) (p : StackPair) (w : Word) : (s.writeStackPair p w).sp = s.sp := by cases p <;> rfl
@[simp] theorem State.writeStackPair_ie (s : State) (p : StackPair) (w : Word) : (s.writeStackPair p w).ie = s.ie := by cases p <;> rfl
@[simp] theorem State.writeStackPair_halted (s : State) (p : StackPair) (w : Word) : (s.writeStackPair p w).halted = s.halted := by cases p <;> rfl
@[simp] theorem State.writeStackPair_mem (s : State) (p : StackPair) (w : Word) : (s.writeStackPair p w).mem = s.mem := by cases p <;> rfl
@[simp] theorem State.writeStackPair_inPort (s : State) (p : StackPair) (w : Word) : (s.writeStackPair p w).inPort = s.inPort := by cases p <;> rfl
@[simp] theorem State.writeStackPair_outPort (s : State) (p : StackPair) (w : Word) : (s.writeStackPair p w).outPort = s.outPort := by cases p <;> rfl
@[simp] theorem State.writeStackPair_cycles (s : State) (p : StackPair) (w : Word) : (s.writeStackPair p w).cycles = s.cycles := by cases p <;> rfl
@[simp] theorem State.writeStackPair_instrs (s : State) (p : StackPair) (w : Word) : (s.writeStackPair p w).instrs = s.instrs := by cases p <;> rfl

@[simp] theorem State.writeSlot_pc (s : State) (i : Slot) (v : Byte) : (s.writeSlot i v).pc = s.pc := by cases i <;> simp [State.writeSlot]
@[simp] theorem State.writeSlot_sp (s : State) (i : Slot) (v : Byte) : (s.writeSlot i v).sp = s.sp := by cases i <;> simp [State.writeSlot]
@[simp] theorem State.writeSlot_flags (s : State) (i : Slot) (v : Byte) : (s.writeSlot i v).flags = s.flags := by cases i <;> simp [State.writeSlot]
@[simp] theorem State.writeSlot_ie (s : State) (i : Slot) (v : Byte) : (s.writeSlot i v).ie = s.ie := by cases i <;> simp [State.writeSlot]
@[simp] theorem State.writeSlot_halted (s : State) (i : Slot) (v : Byte) : (s.writeSlot i v).halted = s.halted := by cases i <;> simp [State.writeSlot]
@[simp] theorem State.writeSlot_inPort (s : State) (i : Slot) (v : Byte) : (s.writeSlot i v).inPort = s.inPort := by cases i <;> simp [State.writeSlot]
@[simp] theorem State.writeSlot_outPort (s : State) (i : Slot) (v : Byte) : (s.writeSlot i v).outPort = s.outPort := by cases i <;> simp [State.writeSlot]
@[simp] theorem State.writeSlot_cycles (s : State) (i : Slot) (v : Byte) : (s.writeSlot i v).cycles = s.cycles := by cases i <;> simp [State.writeSlot]
@[simp] theorem State.writeSlot_instrs (s : State) (i : Slot) (v : Byte) : (s.writeSlot i v).instrs = s.instrs := by cases i <;> simp [State.writeSlot]

/-! Ports and counters -/

@[simp] theorem State.writeInPort_a (s : State) (p v : Byte) : (s.writeInPort p v).a = s.a := rfl
@[simp] theorem State.writeInPort_b (s : State) (p v : Byte) : (s.writeInPort p v).b = s.b := rfl
@[simp] theorem State.writeInPort_c (s : State) (p v : Byte) : (s.writeInPort p v).c = s.c := rfl
@[simp] theorem State.writeInPort_d (s : State) (p v : Byte) : (s.writeInPort p v).d = s.d := rfl
@[simp] theorem State.writeInPort_e (s : State) (p v : Byte) : (s.writeInPort p v).e = s.e := rfl
@[simp] theorem State.writeInPort_h (s : State) (p v : Byte) : (s.writeInPort p v).h = s.h := rfl
@[simp] theorem State.writeInPort_l (s : State) (p v : Byte) : (s.writeInPort p v).l = s.l := rfl
@[simp] theorem State.writeInPort_pc (s : State) (p v : Byte) : (s.writeInPort p v).pc = s.pc := rfl
@[simp] theorem State.writeInPort_sp (s : State) (p v : Byte) : (s.writeInPort p v).sp = s.sp := rfl
@[simp] theorem State.writeInPort_flags (s : State) (p v : Byte) : (s.writeInPort p v).flags = s.flags := rfl
@[simp] theorem State.writeInPort_ie (s : State) (p v : Byte) : (s.writeInPort p v).ie = s.ie := rfl
@[simp] theorem State.writeInPort_halted (s : State) (p v : Byte) : (s.writeInPort p v).halted = s.halted := rfl
@[simp] theorem State.writeInPort_mem (s : State) (p v : Byte) : (s.writeInPort p v).mem = s.mem := rfl
@[simp] theorem State.writeInPort_inPort (s : State) (p v : Byte) : (s.writeInPort p v).inPort = Cells.set s.inPort p.toNat v := rfl
@[simp] theorem State.writeInPort_outPort (s : State) (p v : Byte) : (s.writeInPort p v).outPort = s.outPort := rfl
@[simp] theorem State.writeInPort_cycles (s : State) (p v : Byte) : (s.writeInPort p v).cycles = s.cycles := rfl
@[simp] theorem State.writeInPort_instrs (s : State) (p v : Byte) : (s.writeInPort p v).instrs = s.instrs := rfl

@[simp] theorem State.writeOutPort_a (s : State) (p v : Byte) : (s.writeOutPort p v).a = s.a := rfl
@[simp] theorem State.writeOutPort_b (s : State) (p v : Byte) : (s.writeOutPort p v).b = s.b := rfl
@[simp] theorem State.writeOutPort_c (s : State) (p v : Byte) : (s.writeOutPort p v).c = s.c := rfl
@[simp] theorem State.writeOutPort_d (s : State) (p v : Byte) : (s.writeOutPort p v).d = s.d := rfl
@[simp] theorem State.writeOutPort_e (s : State) (p v : Byte) : (s.writeOutPort p v).e = s.e := rfl
@[simp] theorem State.writeOutPort_h (s : State) (p v : Byte) : (s.writeOutPort p v).h = s.h := rfl
@[simp] theorem State.writeOutPort_l (s : State) (p v : Byte) : (s.writeOutPort p v).l = s.l := rfl
@[simp] theorem State.writeOutPort_pc (s : State) (p v : Byte) : (s.writeOutPort p v).pc = s.pc := rfl
@[simp] theorem State.writeOutPort_sp (s : State) (p v : Byte) : (s.writeOutPort p v).sp = s.sp := rfl
@[simp] theorem State.writeOutPort_flags (s : State) (p v : Byte) : (s.writeOutPort p v).flags = s.flags := rfl
@[simp] theorem State.writeOutPort_ie (s : State) (p v : Byte) : (s.writeOutPort p v).ie = s.ie := rfl
@[simp] theorem State.writeOutPort_halted (s : State) (p v : Byte) : (s.writeOutPort p v).halted = s.halted := rfl
@[simp] theorem State.writeOutPort_mem (s : State) (p v : Byte) : (s.writeOutPort p v).mem = s.mem := rfl
@[simp] theorem State.writeOutPort_inPort (s : State) (p v : Byte) : (s.writeOutPort p v).inPort = s.inPort := rfl
@[simp] theorem State.writeOutPort_outPort (s : State) (p v : Byte) : (s.writeOutPort p v).outPort = Cells.set s.outPort p.toNat v := rfl
@[simp] theorem State.writeOutPort_cycles (s : State) (p v : Byte) : (s.writeOutPort p v).cycles = s.cycles := rfl
@[simp] theorem State.writeOutPort_instrs (s : State) (p v : Byte) : (s.writeOutPort p v).instrs = s.instrs := rfl

@[simp] theorem State.account_a (s : State) (op : Byte) : (s.account op).a = s.a := rfl
@[simp] theorem State.account_b (s : State) (op : Byte) : (s.account op).b = s.b := rfl
@[simp] theorem State.account_c (s : State) (op : Byte) : (s.account op).c = s.c := rfl
@[simp] theorem State.account_d (s : State) (op : Byte) : (s.account op).d = s.d := rfl
@[simp] theorem State.account_e (s : State) (op : Byte) : (s.account op).e = s.e := rfl
@[simp] theorem State.account_h (s : State) (op : Byte) : (s.account op).h = s.h := rfl
@[simp] theorem State.account_l (s : State) (op : Byte) : (s.account op).l = s.l := rfl
@[simp] theorem State.account_pc (s : State) (op : Byte) : (s.account op).pc = s.pc := rfl
@[simp] theorem State.account_sp (s : State) (op : Byte) : (s.account op).sp = s.sp := rfl
@[simp] theorem State.account_flags (s : State) (op : Byte) : (s.account op).flags = s.flags := rfl
@[simp] theorem State.account_ie (s : State) (op : Byte) : (s.account op).ie = s.ie := rfl
@[simp] theorem State.account_halted (s : State) (op : Byte) : (s.account op).halted = s.halted := rfl
@[simp] theorem State.account_mem (s : State) (op : Byte) : (s.account op).mem = s.mem := rfl
@[simp] theorem State.account_inPort (s : State) (op : Byte) : (s.account op).inPort = s.inPort := rfl
@[simp] theorem State.account_outPort (s : State) (op : Byte) : (s.account op).outPort = s.outPort := rfl
@[simp] theorem State.account_cycles (s : State) (op : Byte) : (s.account op).cycles = s.cycles + cycleCost op := rfl
@[simp] theorem State.account_instrs (s : State) (op : Byte) : (s.account op).instrs = s.instrs + 1 := rfl

/-! The forms the arithmetic and logical meanings share -/

@[simp] theorem State.setAcc_a (s : State) (r : Byte × Flags) (len : Word) : (s.setAcc r len).a = r.1 := rfl
@[simp] theorem State.setAcc_b (s : State) (r : Byte × Flags) (len : Word) : (s.setAcc r len).b = s.b := rfl
@[simp] theorem State.setAcc_c (s : State) (r : Byte × Flags) (len : Word) : (s.setAcc r len).c = s.c := rfl
@[simp] theorem State.setAcc_d (s : State) (r : Byte × Flags) (len : Word) : (s.setAcc r len).d = s.d := rfl
@[simp] theorem State.setAcc_e (s : State) (r : Byte × Flags) (len : Word) : (s.setAcc r len).e = s.e := rfl
@[simp] theorem State.setAcc_h (s : State) (r : Byte × Flags) (len : Word) : (s.setAcc r len).h = s.h := rfl
@[simp] theorem State.setAcc_l (s : State) (r : Byte × Flags) (len : Word) : (s.setAcc r len).l = s.l := rfl
@[simp] theorem State.setAcc_pc (s : State) (r : Byte × Flags) (len : Word) : (s.setAcc r len).pc = s.pc + len := rfl
@[simp] theorem State.setAcc_sp (s : State) (r : Byte × Flags) (len : Word) : (s.setAcc r len).sp = s.sp := rfl
@[simp] theorem State.setAcc_flags (s : State) (r : Byte × Flags) (len : Word) : (s.setAcc r len).flags = r.2 := rfl
@[simp] theorem State.setAcc_ie (s : State) (r : Byte × Flags) (len : Word) : (s.setAcc r len).ie = s.ie := rfl
@[simp] theorem State.setAcc_halted (s : State) (r : Byte × Flags) (len : Word) : (s.setAcc r len).halted = s.halted := rfl
@[simp] theorem State.setAcc_mem (s : State) (r : Byte × Flags) (len : Word) : (s.setAcc r len).mem = s.mem := rfl
@[simp] theorem State.setAcc_inPort (s : State) (r : Byte × Flags) (len : Word) : (s.setAcc r len).inPort = s.inPort := rfl
@[simp] theorem State.setAcc_outPort (s : State) (r : Byte × Flags) (len : Word) : (s.setAcc r len).outPort = s.outPort := rfl
@[simp] theorem State.setAcc_cycles (s : State) (r : Byte × Flags) (len : Word) : (s.setAcc r len).cycles = s.cycles := rfl
@[simp] theorem State.setAcc_instrs (s : State) (r : Byte × Flags) (len : Word) : (s.setAcc r len).instrs = s.instrs := rfl

@[simp] theorem State.cmpAcc_a (s : State) (v : Byte) (len : Word) : (s.cmpAcc v len).a = s.a := rfl
@[simp] theorem State.cmpAcc_b (s : State) (v : Byte) (len : Word) : (s.cmpAcc v len).b = s.b := rfl
@[simp] theorem State.cmpAcc_c (s : State) (v : Byte) (len : Word) : (s.cmpAcc v len).c = s.c := rfl
@[simp] theorem State.cmpAcc_d (s : State) (v : Byte) (len : Word) : (s.cmpAcc v len).d = s.d := rfl
@[simp] theorem State.cmpAcc_e (s : State) (v : Byte) (len : Word) : (s.cmpAcc v len).e = s.e := rfl
@[simp] theorem State.cmpAcc_h (s : State) (v : Byte) (len : Word) : (s.cmpAcc v len).h = s.h := rfl
@[simp] theorem State.cmpAcc_l (s : State) (v : Byte) (len : Word) : (s.cmpAcc v len).l = s.l := rfl
@[simp] theorem State.cmpAcc_pc (s : State) (v : Byte) (len : Word) : (s.cmpAcc v len).pc = s.pc + len := rfl
@[simp] theorem State.cmpAcc_sp (s : State) (v : Byte) (len : Word) : (s.cmpAcc v len).sp = s.sp := rfl
@[simp] theorem State.cmpAcc_flags (s : State) (v : Byte) (len : Word) : (s.cmpAcc v len).flags = (sub8 s.a v false s.flags).2 := rfl
@[simp] theorem State.cmpAcc_ie (s : State) (v : Byte) (len : Word) : (s.cmpAcc v len).ie = s.ie := rfl
@[simp] theorem State.cmpAcc_halted (s : State) (v : Byte) (len : Word) : (s.cmpAcc v len).halted = s.halted := rfl
@[simp] theorem State.cmpAcc_mem (s : State) (v : Byte) (len : Word) : (s.cmpAcc v len).mem = s.mem := rfl
@[simp] theorem State.cmpAcc_inPort (s : State) (v : Byte) (len : Word) : (s.cmpAcc v len).inPort = s.inPort := rfl
@[simp] theorem State.cmpAcc_outPort (s : State) (v : Byte) (len : Word) : (s.cmpAcc v len).outPort = s.outPort := rfl
@[simp] theorem State.cmpAcc_cycles (s : State) (v : Byte) (len : Word) : (s.cmpAcc v len).cycles = s.cycles := rfl
@[simp] theorem State.cmpAcc_instrs (s : State) (v : Byte) (len : Word) : (s.cmpAcc v len).instrs = s.instrs := rfl

@[simp] theorem State.setCarry_a (s : State) (v : Bool) : (s.setCarry v).a = s.a := rfl
@[simp] theorem State.setCarry_b (s : State) (v : Bool) : (s.setCarry v).b = s.b := rfl
@[simp] theorem State.setCarry_c (s : State) (v : Bool) : (s.setCarry v).c = s.c := rfl
@[simp] theorem State.setCarry_d (s : State) (v : Bool) : (s.setCarry v).d = s.d := rfl
@[simp] theorem State.setCarry_e (s : State) (v : Bool) : (s.setCarry v).e = s.e := rfl
@[simp] theorem State.setCarry_h (s : State) (v : Bool) : (s.setCarry v).h = s.h := rfl
@[simp] theorem State.setCarry_l (s : State) (v : Bool) : (s.setCarry v).l = s.l := rfl
@[simp] theorem State.setCarry_pc (s : State) (v : Bool) : (s.setCarry v).pc = s.pc + 1 := rfl
@[simp] theorem State.setCarry_sp (s : State) (v : Bool) : (s.setCarry v).sp = s.sp := rfl
@[simp] theorem State.setCarry_flags (s : State) (v : Bool) : (s.setCarry v).flags = { s.flags with cy := v } := rfl
@[simp] theorem State.setCarry_ie (s : State) (v : Bool) : (s.setCarry v).ie = s.ie := rfl
@[simp] theorem State.setCarry_halted (s : State) (v : Bool) : (s.setCarry v).halted = s.halted := rfl
@[simp] theorem State.setCarry_mem (s : State) (v : Bool) : (s.setCarry v).mem = s.mem := rfl
@[simp] theorem State.setCarry_inPort (s : State) (v : Bool) : (s.setCarry v).inPort = s.inPort := rfl
@[simp] theorem State.setCarry_outPort (s : State) (v : Bool) : (s.setCarry v).outPort = s.outPort := rfl
@[simp] theorem State.setCarry_cycles (s : State) (v : Bool) : (s.setCarry v).cycles = s.cycles := rfl
@[simp] theorem State.setCarry_instrs (s : State) (v : Bool) : (s.setCarry v).instrs = s.instrs := rfl

/-! Views: a register by name, and memory by cell and by byte, over each update that leaves them alone -/

@[simp] theorem State.readReg_advance (s : State) (len : Word) (r : Reg) : (s.advance len).readReg r = s.readReg r := by
  cases r <;> simp [State.readReg]
@[simp] theorem State.readReg_jumpTo (s : State) (w : Word) (r : Reg) : (s.jumpTo w).readReg r = s.readReg r := by
  cases r <;> simp [State.readReg]
@[simp] theorem State.readReg_pokeByte (s : State) (a : Word) (v : Byte) (r : Reg) : (s.pokeByte a v).readReg r = s.readReg r := by
  cases r <;> simp [State.readReg]
@[simp] theorem State.readReg_writeByte (s : State) (a : Word) (v : Byte) (r : Reg) : (s.writeByte a v).readReg r = s.readReg r := by
  cases r <;> simp [State.readReg]
@[simp] theorem State.readReg_writeWord (s : State) (a w : Word) (r : Reg) : (s.writeWord a w).readReg r = s.readReg r := by
  cases r <;> simp [State.readReg]
@[simp] theorem State.readReg_push16 (s : State) (w : Word) (r : Reg) : (s.push16 w).readReg r = s.readReg r := by
  cases r <;> simp [State.readReg]
@[simp] theorem State.readReg_callTo (s : State) (ret w : Word) (r : Reg) : (s.callTo ret w).readReg r = s.readReg r := by
  cases r <;> simp [State.readReg]
@[simp] theorem State.readReg_enterVector (s : State) (ret : Word) (n : Fin 8) (r : Reg) : (s.enterVector ret n).readReg r = s.readReg r := by
  cases r <;> simp [State.readReg]
@[simp] theorem State.readReg_returnFrom (s : State) (r : Reg) : (s.returnFrom).readReg r = s.readReg r := by
  cases r <;> simp [State.readReg]
@[simp] theorem State.readReg_writeInPort (s : State) (p v : Byte) (r : Reg) : (s.writeInPort p v).readReg r = s.readReg r := by
  cases r <;> simp [State.readReg]
@[simp] theorem State.readReg_writeOutPort (s : State) (p v : Byte) (r : Reg) : (s.writeOutPort p v).readReg r = s.readReg r := by
  cases r <;> simp [State.readReg]
@[simp] theorem State.readReg_account (s : State) (op : Byte) (r : Reg) : (s.account op).readReg r = s.readReg r := by
  cases r <;> simp [State.readReg]

@[simp] theorem State.cell_advance (s : State) (len : Word) (k : Nat) : (s.advance len).cell k = s.cell k := rfl
@[simp] theorem State.cell_jumpTo (s : State) (w : Word) (k : Nat) : (s.jumpTo w).cell k = s.cell k := rfl
@[simp] theorem State.cell_returnFrom (s : State) (k : Nat) : (s.returnFrom).cell k = s.cell k := rfl
@[simp] theorem State.cell_writeReg (s : State) (r : Reg) (v : Byte) (k : Nat) : (s.writeReg r v).cell k = s.cell k := by simp [State.cell]
@[simp] theorem State.cell_setBC (s : State) (w : Word) (k : Nat) : (s.setBC w).cell k = s.cell k := rfl
@[simp] theorem State.cell_setDE (s : State) (w : Word) (k : Nat) : (s.setDE w).cell k = s.cell k := rfl
@[simp] theorem State.cell_setHL (s : State) (w : Word) (k : Nat) : (s.setHL w).cell k = s.cell k := rfl
@[simp] theorem State.cell_writePair (s : State) (p : Pair) (w : Word) (k : Nat) : (s.writePair p w).cell k = s.cell k := by simp [State.cell]
@[simp] theorem State.cell_writeStackPair (s : State) (p : StackPair) (w : Word) (k : Nat) : (s.writeStackPair p w).cell k = s.cell k := by simp [State.cell]
@[simp] theorem State.cell_writeInPort (s : State) (p v : Byte) (k : Nat) : (s.writeInPort p v).cell k = s.cell k := rfl
@[simp] theorem State.cell_writeOutPort (s : State) (p v : Byte) (k : Nat) : (s.writeOutPort p v).cell k = s.cell k := rfl
@[simp] theorem State.cell_account (s : State) (op : Byte) (k : Nat) : (s.account op).cell k = s.cell k := rfl

@[simp] theorem State.readByte_advance (s : State) (len : Word) (x : Word) : (s.advance len).readByte x = s.readByte x := by simp [State.readByte]
@[simp] theorem State.readByte_jumpTo (s : State) (w : Word) (x : Word) : (s.jumpTo w).readByte x = s.readByte x := by simp [State.readByte]
@[simp] theorem State.readByte_returnFrom (s : State) (x : Word) : (s.returnFrom).readByte x = s.readByte x := by simp [State.readByte]
@[simp] theorem State.readByte_writeReg (s : State) (r : Reg) (v : Byte) (x : Word) : (s.writeReg r v).readByte x = s.readByte x := by simp [State.readByte]
@[simp] theorem State.readByte_setBC (s : State) (w : Word) (x : Word) : (s.setBC w).readByte x = s.readByte x := by simp [State.readByte]
@[simp] theorem State.readByte_setDE (s : State) (w : Word) (x : Word) : (s.setDE w).readByte x = s.readByte x := by simp [State.readByte]
@[simp] theorem State.readByte_setHL (s : State) (w : Word) (x : Word) : (s.setHL w).readByte x = s.readByte x := by simp [State.readByte]
@[simp] theorem State.readByte_writePair (s : State) (p : Pair) (w : Word) (x : Word) : (s.writePair p w).readByte x = s.readByte x := by simp [State.readByte]
@[simp] theorem State.readByte_writeStackPair (s : State) (p : StackPair) (w : Word) (x : Word) : (s.writeStackPair p w).readByte x = s.readByte x := by simp [State.readByte]
@[simp] theorem State.readByte_writeInPort (s : State) (p v : Byte) (x : Word) : (s.writeInPort p v).readByte x = s.readByte x := by simp [State.readByte]
@[simp] theorem State.readByte_writeOutPort (s : State) (p v : Byte) (x : Word) : (s.writeOutPort p v).readByte x = s.readByte x := by simp [State.readByte]
@[simp] theorem State.readByte_account (s : State) (op : Byte) (x : Word) : (s.account op).readByte x = s.readByte x := by simp [State.readByte]

/-- A register read after a register write. -/
@[simp] theorem State.readReg_writeReg (s : State) (r q : Reg) (v : Byte) :
    (s.writeReg r v).readReg q = if q = r then v else s.readReg q := by
  cases r <;> cases q <;> rfl

end Sys2Proof.Machine
end

