-- ==== Sys2Proof/Laws/Memory.lean ====
section
/-!
SUPPORT. What each memory operation does, cell by cell, and that every operation on memory or on a port bank keeps the
canonical form.
-/
namespace Sys2Proof.Machine

/-! ## The alias function (R43) -/

/-- The cell index of a program address, as a number. -/
theorem phys_toNat (a : Word) :
    (phys a).toNat = if a.toNat < 0x4000 then a.toNat else 0x2000 + a.toNat % 0x2000 := by
  have hand : (a &&& 0x1FFF#16).toNat = a.toNat % 0x2000 := by
    rw [BitVec.toNat_and]; exact Nat.and_two_pow_sub_one_eq_mod a.toNat 13
  have hor : (0x2000#16 ||| (a &&& 0x1FFF#16)).toNat = 0x2000 + a.toNat % 0x2000 := by
    rw [BitVec.toNat_or, hand]
    exact (Nat.two_pow_add_eq_or_of_lt (i := 13) (Nat.mod_lt _ (by decide)) 1).symm
  by_cases h : a < Config.mirrorBase
  · rw [phys, if_pos h, if_pos (by simpa [Config.mirrorBase, BitVec.lt_def] using h)]
  · rw [phys, if_neg h, if_neg (by simpa [Config.mirrorBase, BitVec.lt_def] using h)]
    exact hor

/-- Every cell a program address selects is below 0x4000. -/
theorem phys_toNat_lt (a : Word) : (phys a).toNat < 0x4000 := by
  rw [phys_toNat]; split <;> omega

/-- An address is in the write window or its mirror exactly when its cell is in the window. -/
theorem phys_toNat_ge (a : Word) : 0x2000 ≤ (phys a).toNat ↔ 0x2000 ≤ a := by
  rw [phys_toNat]; constructor <;> intro h <;> grind [BitVec.le_def]

/-- The two bytes of a word access are in different cells. -/
theorem phys_succ_ne (a : Word) : (phys (a + 1)).toNat ≠ (phys a).toNat := by
  have : (a + 1).toNat = (a.toNat + 1) % 65536 := by rw [BitVec.toNat_add]; rfl
  rw [phys_toNat, phys_toNat, this]
  have := a.isLt
  split <;> split <;> omega

/-! ## Cells after a store -/

@[simp] theorem State.cell_pokeByte (s : State) (a : Word) (v : Byte) (k : Nat) :
    (s.pokeByte a v).cell k = if k = (phys a).toNat then v else s.cell k := by
  simp [State.cell]

/-- R44, R48: what a byte store does to every cell. -/
theorem State.cell_writeByte (s : State) (a : Word) (v : Byte) (k : Nat) :
    (s.writeByte a v).cell k = if 0x2000 ≤ a ∧ k = (phys a).toNat then v else s.cell k := by
  unfold State.writeByte
  by_cases h : 0x2000 ≤ a
  · rw [if_pos (show Config.ramBase ≤ a from h), State.cell_pokeByte]; simp only [h, true_and]
  · rw [if_neg (show ¬ Config.ramBase ≤ a from h)]; simp only [h, false_and, if_false]

/-- R49: what a word store does to every cell. -/
theorem State.pairStored_writeWord (s : State) (a w : Word) : PairStored s (s.writeWord a w) a (lowByte w) (highByte w) := by
  intro k
  have := phys_succ_ne a
  simp only [State.writeWord, State.cell_writeByte]
  grind

/-- R210: what a push does to every cell. -/
theorem State.pairStored_push16 (s : State) (w : Word) : PairStored s (s.push16 w) (s.sp - 2) (lowByte w) (highByte w) := by
  intro k
  have e : s.sp - 2 + 1 = s.sp - 1 := by bv_omega
  have hc : (s.push16 w).cell k = ((s.writeByte (s.sp - 1) (highByte w)).writeByte (s.sp - 2) (lowByte w)).cell k := by
    simp [State.push16, State.cell]
  rw [hc, e]
  simp only [State.cell_writeByte]

/-- Reading the two bytes of a word. -/
@[simp] theorem joinBytes_high_low (w : Word) : joinBytes (highByte w) (lowByte w) = w := by
  simp only [joinBytes, highByte, lowByte]
  ext i hi
  simp only [BitVec.getElem_append, BitVec.getElem_extractLsb']
  grind

@[simp] theorem highByte_joinBytes (hi lo : Byte) : highByte (joinBytes hi lo) = hi := by
  simp only [joinBytes, highByte]
  ext i h
  simp only [BitVec.getElem_extractLsb', BitVec.getLsbD_append]
  grind

@[simp] theorem lowByte_joinBytes (hi lo : Byte) : lowByte (joinBytes hi lo) = lo := by
  simp only [joinBytes, lowByte]
  ext i h
  simp only [BitVec.getElem_extractLsb', BitVec.getLsbD_append]
  grind

/-! ## A store changes memory alone -/

/-- The memory after a byte store at a program address (R48), as a function of the memory. -/
def Memory.store (m : Memory) (a : Word) (v : Byte) : Memory :=
  if Config.ramBase ≤ a then Cells.set m (phys a).toNat v else m

/-- A byte store as a record update: nothing but memory is read or written. -/
theorem State.writeByte_eq (s : State) (a : Word) (v : Byte) : s.writeByte a v = { s with mem := s.mem.store a v } := by
  unfold State.writeByte Memory.store; split <;> rfl

/-- A word store as a record update. -/
theorem State.writeWord_eq (s : State) (a w : Word) :
    s.writeWord a w = { s with mem := (s.mem.store a (lowByte w)).store (a + 1) (highByte w) } := by
  simp only [State.writeWord, State.writeByte_eq]

/-- A push as a record update. -/
theorem State.push16_eq (s : State) (w : Word) :
    s.push16 w =
      { s with sp := s.sp - 2, mem := (s.mem.store (s.sp - 1) (highByte w)).store (s.sp - 2) (lowByte w) } := by
  simp only [State.push16, State.writeByte_eq]

theorem AgreesOffMemory.refl (s : State) : AgreesOffMemory s s := rfl

theorem State.agrees_writeByte (s : State) (a : Word) (v : Byte) : AgreesOffMemory (s.writeByte a v) s := by
  unfold State.writeByte; split <;> rfl

theorem State.agrees_writeWord (s : State) (a w : Word) : AgreesOffMemory (s.writeWord a w) s := by
  unfold State.writeWord State.writeByte; split <;> split <;> rfl

theorem State.agrees_push16 (s : State) (w : Word) : AgreesOffMemory (s.push16 w) { s with sp := s.sp - 2 } := by
  unfold State.push16 State.writeByte; split <;> split <;> rfl

/-! ## The canonical form -/

theorem State.reset_inv : State.reset.Inv := by decide

/-- What the invariant rests on: two states with the same memory and the same port banks have it or lack it together. -/
theorem State.Inv.of_eq {s t : State} (h : s.Inv) (hm : t.mem = s.mem) (hi : t.inPort = s.inPort) (ho : t.outPort = s.outPort) :
    t.Inv := by
  unfold State.Inv; rw [hm, hi, ho]; exact h

theorem State.Inv.pokeByte {s : State} (h : s.Inv) (a : Word) (v : Byte) : (s.pokeByte a v).Inv :=
  ⟨Cells.wf_set h.1 (lt_trans (phys_toNat_lt a) (by decide)) v, h.2⟩

theorem State.Inv.writeByte {s : State} (h : s.Inv) (a : Word) (v : Byte) : (s.writeByte a v).Inv := by
  unfold State.writeByte; split
  · exact h.pokeByte a v
  · exact h

theorem State.Inv.writeWord {s : State} (h : s.Inv) (a w : Word) : (s.writeWord a w).Inv :=
  (h.writeByte a _).writeByte _ _

theorem State.Inv.push16 {s : State} (h : s.Inv) (w : Word) : (s.push16 w).Inv :=
  ((h.writeByte (s.sp - 1) (highByte w)).writeByte (s.sp - 2) (lowByte w)).of_eq rfl rfl rfl

theorem State.Inv.writeSlot {s : State} (h : s.Inv) (i : Slot) (v : Byte) : (s.writeSlot i v).Inv := by
  cases i with
  | reg r => exact h.of_eq (State.writeReg_mem ..) (State.writeReg_inPort ..) (State.writeReg_outPort ..)
  | m => exact h.writeByte _ v

theorem State.Inv.writeInPort {s : State} (h : s.Inv) (p v : Byte) : (s.writeInPort p v).Inv :=
  ⟨h.1, Cells.wf_set h.2.1 p.isLt v, h.2.2⟩

theorem State.Inv.writeOutPort {s : State} (h : s.Inv) (p v : Byte) : (s.writeOutPort p v).Inv :=
  ⟨h.1, h.2.1, Cells.wf_set h.2.2 p.isLt v⟩

/-- The memory load keeps the canonical form of memory while it stays inside the address space (R57 (a)). -/
theorem Cells.wf_setMany {bound : Nat} {m : Cells} (h : m.wf bound) (buffer : List Byte) {k : Nat}
    (hk : k + buffer.length ≤ bound) : (m.setMany k buffer).wf bound := by
  induction buffer generalizing m k with
  | nil => exact h
  | cons v rest ih =>
    simp only [List.length_cons] at hk
    exact ih (Cells.wf_set h (by omega) v) (by omega)

/-- Every cell after a memory load. -/
theorem Cells.get_setMany (m : Cells) (buffer : List Byte) (k j : Nat) :
    (m.setMany k buffer).get j = if k ≤ j ∧ j < k + buffer.length then buffer.getD (j - k) 0 else m.get j := by
  induction buffer generalizing m k with
  | nil => rw [if_neg (by simp)]; rfl
  | cons v rest ih =>
    rw [Cells.setMany, ih, Cells.get_set]
    simp only [List.length_cons]
    by_cases h : j = k
    · subst h; simp
    · by_cases h2 : k ≤ j
      · obtain ⟨n, rfl⟩ : ∃ n, j = k + 1 + n := ⟨j - (k + 1), by omega⟩
        have e1 : k + 1 + n - k = n + 1 := by omega
        have e2 : k + 1 + n - (k + 1) = n := by omega
        simp only [e1, e2, List.getD_cons_succ, h, if_false]
        by_cases h3 : n < rest.length
        · rw [if_pos (by omega), if_pos (by omega)]
        · rw [if_neg (by omega), if_neg (by omega)]
      · rw [if_neg (by omega), if_neg h, if_neg (by omega)]

/-- A memory load that fits keeps the invariant (R57, R321). -/
theorem State.Inv.load {s t : State} (h : s.Inv) {buffer : List Byte} {base : Word} (ht : s.load buffer base = some t) : t.Inv := by
  unfold State.load at ht
  split at ht
  · cases ht
  · cases ht
    exact ⟨Cells.wf_setMany h.1 buffer (not_lt.1 ‹_›), h.2⟩

end Sys2Proof.Machine
end

