-- ==== Sys2Proof/Laws/Operations.lean ====
section
/-!
SUPPORT. What each shared operation over flags, slots, the stack and interrupts can do, said once.
-/
namespace Sys2Proof.Machine

/-! ## Flag helpers -/

/-- `SetZSP` with CY and AC given writes all five flags (R101). -/
theorem Flags.setZSP_eq (f : Flags) (r : Byte) (cy ac : Bool) :
    ({ f.setZSP r with cy := cy, ac := ac } : Flags) = flagsOf r cy ac := by
  simp [Flags.setZSP, flagsOf, BitVec.msb_eq_getLsbD_last]

/-- `Add8`: the byte and the flags it returns (R109). -/
theorem add8_eq (a v : Byte) (c : Bool) (f : Flags) :
    add8 a v c f =
      (a + v + BitVec.ofNat 8 c.toNat,
        flagsOf (a + v + BitVec.ofNat 8 c.toNat) (decide (0xFF < a.toNat + v.toNat + c.toNat))
          (decide (0x0F < a.toNat % 16 + v.toNat % 16 + c.toNat))) := by
  have : BitVec.ofNat 8 (a.toNat + v.toNat + c.toNat) = a + v + BitVec.ofNat 8 c.toNat := by
    apply BitVec.eq_of_toNat_eq; simp
  simp only [add8, this, Flags.setZSP_eq]; rfl

/-- `Sub8`: the byte and the flags it returns; AC is 1 when the low nibble does not borrow (R110). -/
theorem sub8_eq (a v : Byte) (c : Bool) (f : Flags) :
    sub8 a v c f =
      (a - v - BitVec.ofNat 8 c.toNat,
        flagsOf (a - v - BitVec.ofNat 8 c.toNat) (decide (a.toNat < v.toNat + c.toNat))
          (decide (v.toNat % 16 + c.toNat ≤ a.toNat % 16))) := by
  have ha := a.isLt
  have hv := v.isLt
  have h1 : BitVec.ofInt 8 ((a.toNat : Int) - v.toNat - c.toNat) = a - v - BitVec.ofNat 8 c.toNat := by
    apply BitVec.eq_of_toNat_eq
    cases c <;> simp [BitVec.toNat_ofInt, BitVec.toNat_sub] <;> omega
  have h2 : decide ((a.toNat : Int) - v.toNat - c.toNat < 0) = decide (a.toNat < v.toNat + c.toNat) := by
    congr 1; apply propext; omega
  have h3 : subAC a v c = decide (v.toNat % 16 + c.toNat ≤ a.toNat % 16) := by
    have hn : (~~~v).toNat = 255 - v.toNat := by simp [BitVec.toNat_not]
    have hc : c.toNat ≤ 1 := by cases c <;> simp
    unfold subAC lowNibble
    rw [hn]; congr 1; apply propext; omega
  simp only [sub8, h1, h2, h3, Flags.setZSP_eq]

/-- `Logic8` returns flags with CY clear (R111). -/
theorem logic8_flags (op : LogicOp) (a v : Byte) (f : Flags) :
    (logic8 op a v f).2 = flagsOf (logic8 op a v f).1 false (decide (op = .and) && (a ||| v).getLsbD 3) := by
  cases op <;> simp [logic8, Flags.setZSP_eq]

/-- Increment (R130). -/
theorem inc8_eq (v : Byte) (f : Flags) : inc8 v f = (v + 1, flagsOf (v + 1) f.cy (decide (v.toNat % 16 = 15))) := by
  simp [inc8, flagsOf, Flags.setZSP, BitVec.msb_eq_getLsbD_last, lowNibble]; rfl

/-- Decrement (R131). -/
theorem dec8_eq (v : Byte) (f : Flags) : dec8 v f = (v - 1, flagsOf (v - 1) f.cy (decide (v.toNat % 16 ≠ 0))) := by
  simp [dec8, flagsOf, Flags.setZSP, BitVec.msb_eq_getLsbD_last, lowNibble]; rfl

/-- A flag byte gives its flags back (R22, R215). -/
@[simp] theorem Flags.ofByte_toByte (f : Flags) : Flags.ofByte f.toByte = f := by
  obtain ⟨z, s, p, cy, ac⟩ := f
  revert z s p cy ac; decide

/-! ## Slots -/

/-- What a slot write does to the registers: only a register slot changes one, its own. -/
theorem State.readReg_writeSlot (s : State) (i : Slot) (v : Byte) (q : Reg) :
    (s.writeSlot i v).readReg q = if i = .reg q then v else s.readReg q := by
  cases i with
  | reg r => cases r <;> cases q <;> rfl
  | m => simp [State.writeSlot]

/-- What a slot write does to memory: only the slot M stores, at H:L. -/
theorem State.cell_writeSlot (s : State) (i : Slot) (v : Byte) (k : Nat) :
    (s.writeSlot i v).cell k = if i = .m ∧ 0x2000 ≤ s.hl ∧ k = (phys s.hl).toNat then v else s.cell k := by
  cases i with
  | reg r => simp [State.writeSlot]
  | m => simp only [State.writeSlot, State.cell_writeByte, true_and]

/-! ## The stack -/

/-- What a push leaves at the stack pointer is the word pushed, where neither byte is dropped (R219). -/
theorem State.readWord_push16 {s t : State} {w : Word} (h1 : 0x2000 ≤ s.sp - 1) (h2 : 0x2000 ≤ s.sp - 2)
    (hm : t.mem = (s.push16 w).mem) : t.readWord (s.sp - 2) = w := by
  have e : s.sp - 2 + 1 = s.sp - 1 := by bv_omega
  have hc : ∀ k, t.cell k = (s.push16 w).cell k := fun k => by unfold State.cell; rw [hm]
  have hp := State.pairStored_push16 s w
  have hne := phys_succ_ne (s.sp - 2)
  unfold State.readWord State.readByte
  rw [hc, hc, hp, hp, if_neg (fun h => hne h.2), if_pos ⟨e ▸ h1, rfl⟩, if_pos ⟨h2, rfl⟩, joinBytes_high_low]

/-- A pop as a record update: no memory is written (R211, R217). -/
theorem State.pop16_eq (s : State) : s.pop16 = (s.readWord s.sp, { s with sp := s.sp + 2 }) := rfl

/-! ## Vectors and interrupts -/

/-- The address of a vector (R238, R311). -/
theorem vectorAddress_eq (n : Fin 8) : vectorAddress n = 8 * BitVec.ofNat 16 n.val := by
  revert n; decide

/-- An interrupt is dropped, changing nothing, or enters its vector (R311 to R313). -/
theorem State.raiseInterruptWith_cases (clearsIE : Bool) (s : State) (n : Fin 8) :
    s.raiseInterruptWith clearsIE n = s ∨
    (s.halted = false ∧ s.ie = true ∧
      s.raiseInterruptWith clearsIE n = { s.enterVector s.pc n with ie := !clearsIE }) := by
  by_cases hh : s.halted = true
  · exact .inl (by unfold State.raiseInterruptWith; rw [if_pos hh])
  by_cases hi : s.ie = true
  · refine .inr ⟨by simpa using hh, hi, ?_⟩
    unfold State.raiseInterruptWith
    rw [if_neg hh, if_pos hi]
    have key : ∀ t : State, t.ie = true → ∀ b : Bool, (if b then { t with ie := false } else t) = { t with ie := !b } := by
      rintro ⟨⟩ rfl (_ | _) <;> rfl
    exact key _ (by simp [hi]) clearsIE
  · exact .inl (by unfold State.raiseInterruptWith; rw [if_neg hh, if_neg hi])

theorem State.Inv.raiseInterruptWith {s : State} (h : s.Inv) (clearsIE : Bool) (n : Fin 8) :
    (s.raiseInterruptWith clearsIE n).Inv := by
  rcases State.raiseInterruptWith_cases clearsIE s n with e | ⟨-, -, e⟩
  · rw [e]; exact h
  · rw [e]; exact (h.push16 s.pc).of_eq rfl rfl rfl

end Sys2Proof.Machine
end

