-- ==== Sys2Proof/Laws/PerInstr.lean ====
section
/-!
SUPPORT. The per-instruction family `EncodedLength`: the bytes of a well-formed instruction are as many as R72 says its
opcode byte calls for. One lemma per constructor.
-/
namespace Sys2Proof.Laws.EncodedLength

/-- The encoding of a well-formed instruction starts with an opcode byte and has the length that byte calls for (R72). -/
def Statement (i : Instr) : Prop :=
  i.WellFormed → ∃ op operands, encode i = op :: operands ∧ (op :: operands).length = instrLength op

theorem nop : Statement (.nop) := fun _ => ⟨_, _, rfl, by rfl⟩
theorem lxiB (w : Word) : Statement (.lxiB w) := fun _ => ⟨_, _, rfl, by rfl⟩
theorem staxB : Statement (.staxB) := fun _ => ⟨_, _, rfl, by rfl⟩
theorem inxB : Statement (.inxB) := fun _ => ⟨_, _, rfl, by rfl⟩
theorem inrB : Statement (.inrB) := fun _ => ⟨_, _, rfl, by rfl⟩
theorem dcrB : Statement (.dcrB) := fun _ => ⟨_, _, rfl, by rfl⟩
theorem mviB (d8 : Byte) : Statement (.mviB d8) := fun _ => ⟨_, _, rfl, by rfl⟩
theorem rlc : Statement (.rlc) := fun _ => ⟨_, _, rfl, by rfl⟩
theorem unassigned (op : Byte) : Statement (.unassigned op) := by
  have key : ∀ op : Byte, (Instr.unassigned op).WellFormed → 1 = instrLength op := by decide
  exact fun h => ⟨op, [], rfl, key op h⟩
theorem dadB : Statement (.dadB) := fun _ => ⟨_, _, rfl, by rfl⟩
theorem ldaxB : Statement (.ldaxB) := fun _ => ⟨_, _, rfl, by rfl⟩
theorem dcxB : Statement (.dcxB) := fun _ => ⟨_, _, rfl, by rfl⟩
theorem inrC : Statement (.inrC) := fun _ => ⟨_, _, rfl, by rfl⟩
theorem dcrC : Statement (.dcrC) := fun _ => ⟨_, _, rfl, by rfl⟩
theorem mviC (d8 : Byte) : Statement (.mviC d8) := fun _ => ⟨_, _, rfl, by rfl⟩
theorem rrc : Statement (.rrc) := fun _ => ⟨_, _, rfl, by rfl⟩
theorem lxiD (w : Word) : Statement (.lxiD w) := fun _ => ⟨_, _, rfl, by rfl⟩
theorem staxD : Statement (.staxD) := fun _ => ⟨_, _, rfl, by rfl⟩
theorem inxD : Statement (.inxD) := fun _ => ⟨_, _, rfl, by rfl⟩
theorem inrD : Statement (.inrD) := fun _ => ⟨_, _, rfl, by rfl⟩
theorem dcrD : Statement (.dcrD) := fun _ => ⟨_, _, rfl, by rfl⟩
theorem mviD (d8 : Byte) : Statement (.mviD d8) := fun _ => ⟨_, _, rfl, by rfl⟩
theorem ral : Statement (.ral) := fun _ => ⟨_, _, rfl, by rfl⟩
theorem dadD : Statement (.dadD) := fun _ => ⟨_, _, rfl, by rfl⟩
theorem ldaxD : Statement (.ldaxD) := fun _ => ⟨_, _, rfl, by rfl⟩
theorem dcxD : Statement (.dcxD) := fun _ => ⟨_, _, rfl, by rfl⟩
theorem inrE : Statement (.inrE) := fun _ => ⟨_, _, rfl, by rfl⟩
theorem dcrE : Statement (.dcrE) := fun _ => ⟨_, _, rfl, by rfl⟩
theorem mviE (d8 : Byte) : Statement (.mviE d8) := fun _ => ⟨_, _, rfl, by rfl⟩
theorem rar : Statement (.rar) := fun _ => ⟨_, _, rfl, by rfl⟩
theorem lxiH (w : Word) : Statement (.lxiH w) := fun _ => ⟨_, _, rfl, by rfl⟩
theorem shld (w : Word) : Statement (.shld w) := fun _ => ⟨_, _, rfl, by rfl⟩
theorem inxH : Statement (.inxH) := fun _ => ⟨_, _, rfl, by rfl⟩
theorem inrH : Statement (.inrH) := fun _ => ⟨_, _, rfl, by rfl⟩
theorem dcrH : Statement (.dcrH) := fun _ => ⟨_, _, rfl, by rfl⟩
theorem mviH (d8 : Byte) : Statement (.mviH d8) := fun _ => ⟨_, _, rfl, by rfl⟩
theorem daa : Statement (.daa) := fun _ => ⟨_, _, rfl, by rfl⟩
theorem dadH : Statement (.dadH) := fun _ => ⟨_, _, rfl, by rfl⟩
theorem lhld (w : Word) : Statement (.lhld w) := fun _ => ⟨_, _, rfl, by rfl⟩
theorem dcxH : Statement (.dcxH) := fun _ => ⟨_, _, rfl, by rfl⟩
theorem inrL : Statement (.inrL) := fun _ => ⟨_, _, rfl, by rfl⟩
theorem dcrL : Statement (.dcrL) := fun _ => ⟨_, _, rfl, by rfl⟩
theorem mviL (d8 : Byte) : Statement (.mviL d8) := fun _ => ⟨_, _, rfl, by rfl⟩
theorem cma : Statement (.cma) := fun _ => ⟨_, _, rfl, by rfl⟩
theorem lxiSP (w : Word) : Statement (.lxiSP w) := fun _ => ⟨_, _, rfl, by rfl⟩
theorem sta (w : Word) : Statement (.sta w) := fun _ => ⟨_, _, rfl, by rfl⟩
theorem inxSP : Statement (.inxSP) := fun _ => ⟨_, _, rfl, by rfl⟩
theorem inrM : Statement (.inrM) := fun _ => ⟨_, _, rfl, by rfl⟩
theorem dcrM : Statement (.dcrM) := fun _ => ⟨_, _, rfl, by rfl⟩
theorem mviM (d8 : Byte) : Statement (.mviM d8) := fun _ => ⟨_, _, rfl, by rfl⟩
theorem stc : Statement (.stc) := fun _ => ⟨_, _, rfl, by rfl⟩
theorem dadSP : Statement (.dadSP) := fun _ => ⟨_, _, rfl, by rfl⟩
theorem lda (w : Word) : Statement (.lda w) := fun _ => ⟨_, _, rfl, by rfl⟩
theorem dcxSP : Statement (.dcxSP) := fun _ => ⟨_, _, rfl, by rfl⟩
theorem inrA : Statement (.inrA) := fun _ => ⟨_, _, rfl, by rfl⟩
theorem dcrA : Statement (.dcrA) := fun _ => ⟨_, _, rfl, by rfl⟩
theorem mviA (d8 : Byte) : Statement (.mviA d8) := fun _ => ⟨_, _, rfl, by rfl⟩
theorem cmc : Statement (.cmc) := fun _ => ⟨_, _, rfl, by rfl⟩
theorem movBB : Statement (.movBB) := fun _ => ⟨_, _, rfl, by rfl⟩
theorem movBC : Statement (.movBC) := fun _ => ⟨_, _, rfl, by rfl⟩
theorem movBD : Statement (.movBD) := fun _ => ⟨_, _, rfl, by rfl⟩
theorem movBE : Statement (.movBE) := fun _ => ⟨_, _, rfl, by rfl⟩
theorem movBH : Statement (.movBH) := fun _ => ⟨_, _, rfl, by rfl⟩
theorem movBL : Statement (.movBL) := fun _ => ⟨_, _, rfl, by rfl⟩
theorem movBM : Statement (.movBM) := fun _ => ⟨_, _, rfl, by rfl⟩
theorem movBA : Statement (.movBA) := fun _ => ⟨_, _, rfl, by rfl⟩
theorem movCB : Statement (.movCB) := fun _ => ⟨_, _, rfl, by rfl⟩
theorem movCC : Statement (.movCC) := fun _ => ⟨_, _, rfl, by rfl⟩
theorem movCD : Statement (.movCD) := fun _ => ⟨_, _, rfl, by rfl⟩
theorem movCE : Statement (.movCE) := fun _ => ⟨_, _, rfl, by rfl⟩
theorem movCH : Statement (.movCH) := fun _ => ⟨_, _, rfl, by rfl⟩
theorem movCL : Statement (.movCL) := fun _ => ⟨_, _, rfl, by rfl⟩
theorem movCM : Statement (.movCM) := fun _ => ⟨_, _, rfl, by rfl⟩
theorem movCA : Statement (.movCA) := fun _ => ⟨_, _, rfl, by rfl⟩
theorem movDB : Statement (.movDB) := fun _ => ⟨_, _, rfl, by rfl⟩
theorem movDC : Statement (.movDC) := fun _ => ⟨_, _, rfl, by rfl⟩
theorem movDD : Statement (.movDD) := fun _ => ⟨_, _, rfl, by rfl⟩
theorem movDE : Statement (.movDE) := fun _ => ⟨_, _, rfl, by rfl⟩
theorem movDH : Statement (.movDH) := fun _ => ⟨_, _, rfl, by rfl⟩
theorem movDL : Statement (.movDL) := fun _ => ⟨_, _, rfl, by rfl⟩
theorem movDM : Statement (.movDM) := fun _ => ⟨_, _, rfl, by rfl⟩
theorem movDA : Statement (.movDA) := fun _ => ⟨_, _, rfl, by rfl⟩
theorem movEB : Statement (.movEB) := fun _ => ⟨_, _, rfl, by rfl⟩
theorem movEC : Statement (.movEC) := fun _ => ⟨_, _, rfl, by rfl⟩
theorem movED : Statement (.movED) := fun _ => ⟨_, _, rfl, by rfl⟩
theorem movEE : Statement (.movEE) := fun _ => ⟨_, _, rfl, by rfl⟩
theorem movEH : Statement (.movEH) := fun _ => ⟨_, _, rfl, by rfl⟩
theorem movEL : Statement (.movEL) := fun _ => ⟨_, _, rfl, by rfl⟩
theorem movEM : Statement (.movEM) := fun _ => ⟨_, _, rfl, by rfl⟩
theorem movEA : Statement (.movEA) := fun _ => ⟨_, _, rfl, by rfl⟩
theorem movHB : Statement (.movHB) := fun _ => ⟨_, _, rfl, by rfl⟩
theorem movHC : Statement (.movHC) := fun _ => ⟨_, _, rfl, by rfl⟩
theorem movHD : Statement (.movHD) := fun _ => ⟨_, _, rfl, by rfl⟩
theorem movHE : Statement (.movHE) := fun _ => ⟨_, _, rfl, by rfl⟩
theorem movHH : Statement (.movHH) := fun _ => ⟨_, _, rfl, by rfl⟩
theorem movHL : Statement (.movHL) := fun _ => ⟨_, _, rfl, by rfl⟩
theorem movHM : Statement (.movHM) := fun _ => ⟨_, _, rfl, by rfl⟩
theorem movHA : Statement (.movHA) := fun _ => ⟨_, _, rfl, by rfl⟩
theorem movLB : Statement (.movLB) := fun _ => ⟨_, _, rfl, by rfl⟩
theorem movLC : Statement (.movLC) := fun _ => ⟨_, _, rfl, by rfl⟩
theorem movLD : Statement (.movLD) := fun _ => ⟨_, _, rfl, by rfl⟩
theorem movLE : Statement (.movLE) := fun _ => ⟨_, _, rfl, by rfl⟩
theorem movLH : Statement (.movLH) := fun _ => ⟨_, _, rfl, by rfl⟩
theorem movLL : Statement (.movLL) := fun _ => ⟨_, _, rfl, by rfl⟩
theorem movLM : Statement (.movLM) := fun _ => ⟨_, _, rfl, by rfl⟩
theorem movLA : Statement (.movLA) := fun _ => ⟨_, _, rfl, by rfl⟩
theorem movMB : Statement (.movMB) := fun _ => ⟨_, _, rfl, by rfl⟩
theorem movMC : Statement (.movMC) := fun _ => ⟨_, _, rfl, by rfl⟩
theorem movMD : Statement (.movMD) := fun _ => ⟨_, _, rfl, by rfl⟩
theorem movME : Statement (.movME) := fun _ => ⟨_, _, rfl, by rfl⟩
theorem movMH : Statement (.movMH) := fun _ => ⟨_, _, rfl, by rfl⟩
theorem movML : Statement (.movML) := fun _ => ⟨_, _, rfl, by rfl⟩
theorem hlt : Statement (.hlt) := fun _ => ⟨_, _, rfl, by rfl⟩
theorem movMA : Statement (.movMA) := fun _ => ⟨_, _, rfl, by rfl⟩
theorem movAB : Statement (.movAB) := fun _ => ⟨_, _, rfl, by rfl⟩
theorem movAC : Statement (.movAC) := fun _ => ⟨_, _, rfl, by rfl⟩
theorem movAD : Statement (.movAD) := fun _ => ⟨_, _, rfl, by rfl⟩
theorem movAE : Statement (.movAE) := fun _ => ⟨_, _, rfl, by rfl⟩
theorem movAH : Statement (.movAH) := fun _ => ⟨_, _, rfl, by rfl⟩
theorem movAL : Statement (.movAL) := fun _ => ⟨_, _, rfl, by rfl⟩
theorem movAM : Statement (.movAM) := fun _ => ⟨_, _, rfl, by rfl⟩
theorem movAA : Statement (.movAA) := fun _ => ⟨_, _, rfl, by rfl⟩
theorem addB : Statement (.addB) := fun _ => ⟨_, _, rfl, by rfl⟩
theorem addC : Statement (.addC) := fun _ => ⟨_, _, rfl, by rfl⟩
theorem addD : Statement (.addD) := fun _ => ⟨_, _, rfl, by rfl⟩
theorem addE : Statement (.addE) := fun _ => ⟨_, _, rfl, by rfl⟩
theorem addH : Statement (.addH) := fun _ => ⟨_, _, rfl, by rfl⟩
theorem addL : Statement (.addL) := fun _ => ⟨_, _, rfl, by rfl⟩
theorem addM : Statement (.addM) := fun _ => ⟨_, _, rfl, by rfl⟩
theorem addA : Statement (.addA) := fun _ => ⟨_, _, rfl, by rfl⟩
theorem adcB : Statement (.adcB) := fun _ => ⟨_, _, rfl, by rfl⟩
theorem adcC : Statement (.adcC) := fun _ => ⟨_, _, rfl, by rfl⟩
theorem adcD : Statement (.adcD) := fun _ => ⟨_, _, rfl, by rfl⟩
theorem adcE : Statement (.adcE) := fun _ => ⟨_, _, rfl, by rfl⟩
theorem adcH : Statement (.adcH) := fun _ => ⟨_, _, rfl, by rfl⟩
theorem adcL : Statement (.adcL) := fun _ => ⟨_, _, rfl, by rfl⟩
theorem adcM : Statement (.adcM) := fun _ => ⟨_, _, rfl, by rfl⟩
theorem adcA : Statement (.adcA) := fun _ => ⟨_, _, rfl, by rfl⟩
theorem subB : Statement (.subB) := fun _ => ⟨_, _, rfl, by rfl⟩
theorem subC : Statement (.subC) := fun _ => ⟨_, _, rfl, by rfl⟩
theorem subD : Statement (.subD) := fun _ => ⟨_, _, rfl, by rfl⟩
theorem subE : Statement (.subE) := fun _ => ⟨_, _, rfl, by rfl⟩
theorem subH : Statement (.subH) := fun _ => ⟨_, _, rfl, by rfl⟩
theorem subL : Statement (.subL) := fun _ => ⟨_, _, rfl, by rfl⟩
theorem subM : Statement (.subM) := fun _ => ⟨_, _, rfl, by rfl⟩
theorem subA : Statement (.subA) := fun _ => ⟨_, _, rfl, by rfl⟩
theorem sbbB : Statement (.sbbB) := fun _ => ⟨_, _, rfl, by rfl⟩
theorem sbbC : Statement (.sbbC) := fun _ => ⟨_, _, rfl, by rfl⟩
theorem sbbD : Statement (.sbbD) := fun _ => ⟨_, _, rfl, by rfl⟩
theorem sbbE : Statement (.sbbE) := fun _ => ⟨_, _, rfl, by rfl⟩
theorem sbbH : Statement (.sbbH) := fun _ => ⟨_, _, rfl, by rfl⟩
theorem sbbL : Statement (.sbbL) := fun _ => ⟨_, _, rfl, by rfl⟩
theorem sbbM : Statement (.sbbM) := fun _ => ⟨_, _, rfl, by rfl⟩
theorem sbbA : Statement (.sbbA) := fun _ => ⟨_, _, rfl, by rfl⟩
theorem anaB : Statement (.anaB) := fun _ => ⟨_, _, rfl, by rfl⟩
theorem anaC : Statement (.anaC) := fun _ => ⟨_, _, rfl, by rfl⟩
theorem anaD : Statement (.anaD) := fun _ => ⟨_, _, rfl, by rfl⟩
theorem anaE : Statement (.anaE) := fun _ => ⟨_, _, rfl, by rfl⟩
theorem anaH : Statement (.anaH) := fun _ => ⟨_, _, rfl, by rfl⟩
theorem anaL : Statement (.anaL) := fun _ => ⟨_, _, rfl, by rfl⟩
theorem anaM : Statement (.anaM) := fun _ => ⟨_, _, rfl, by rfl⟩
theorem anaA : Statement (.anaA) := fun _ => ⟨_, _, rfl, by rfl⟩
theorem xraB : Statement (.xraB) := fun _ => ⟨_, _, rfl, by rfl⟩
theorem xraC : Statement (.xraC) := fun _ => ⟨_, _, rfl, by rfl⟩
theorem xraD : Statement (.xraD) := fun _ => ⟨_, _, rfl, by rfl⟩
theorem xraE : Statement (.xraE) := fun _ => ⟨_, _, rfl, by rfl⟩
theorem xraH : Statement (.xraH) := fun _ => ⟨_, _, rfl, by rfl⟩
theorem xraL : Statement (.xraL) := fun _ => ⟨_, _, rfl, by rfl⟩
theorem xraM : Statement (.xraM) := fun _ => ⟨_, _, rfl, by rfl⟩
theorem xraA : Statement (.xraA) := fun _ => ⟨_, _, rfl, by rfl⟩
theorem oraB : Statement (.oraB) := fun _ => ⟨_, _, rfl, by rfl⟩
theorem oraC : Statement (.oraC) := fun _ => ⟨_, _, rfl, by rfl⟩
theorem oraD : Statement (.oraD) := fun _ => ⟨_, _, rfl, by rfl⟩
theorem oraE : Statement (.oraE) := fun _ => ⟨_, _, rfl, by rfl⟩
theorem oraH : Statement (.oraH) := fun _ => ⟨_, _, rfl, by rfl⟩
theorem oraL : Statement (.oraL) := fun _ => ⟨_, _, rfl, by rfl⟩
theorem oraM : Statement (.oraM) := fun _ => ⟨_, _, rfl, by rfl⟩
theorem oraA : Statement (.oraA) := fun _ => ⟨_, _, rfl, by rfl⟩
theorem cmpB : Statement (.cmpB) := fun _ => ⟨_, _, rfl, by rfl⟩
theorem cmpC : Statement (.cmpC) := fun _ => ⟨_, _, rfl, by rfl⟩
theorem cmpD : Statement (.cmpD) := fun _ => ⟨_, _, rfl, by rfl⟩
theorem cmpE : Statement (.cmpE) := fun _ => ⟨_, _, rfl, by rfl⟩
theorem cmpH : Statement (.cmpH) := fun _ => ⟨_, _, rfl, by rfl⟩
theorem cmpL : Statement (.cmpL) := fun _ => ⟨_, _, rfl, by rfl⟩
theorem cmpM : Statement (.cmpM) := fun _ => ⟨_, _, rfl, by rfl⟩
theorem cmpA : Statement (.cmpA) := fun _ => ⟨_, _, rfl, by rfl⟩
theorem rnz : Statement (.rnz) := fun _ => ⟨_, _, rfl, by rfl⟩
theorem popB : Statement (.popB) := fun _ => ⟨_, _, rfl, by rfl⟩
theorem jnz (w : Word) : Statement (.jnz w) := fun _ => ⟨_, _, rfl, by rfl⟩
theorem jmp (w : Word) : Statement (.jmp w) := fun _ => ⟨_, _, rfl, by rfl⟩
theorem cnz (w : Word) : Statement (.cnz w) := fun _ => ⟨_, _, rfl, by rfl⟩
theorem pushB : Statement (.pushB) := fun _ => ⟨_, _, rfl, by rfl⟩
theorem adi (d8 : Byte) : Statement (.adi d8) := fun _ => ⟨_, _, rfl, by rfl⟩
theorem rst0 : Statement (.rst0) := fun _ => ⟨_, _, rfl, by rfl⟩
theorem rz : Statement (.rz) := fun _ => ⟨_, _, rfl, by rfl⟩
theorem ret : Statement (.ret) := fun _ => ⟨_, _, rfl, by rfl⟩
theorem jz (w : Word) : Statement (.jz w) := fun _ => ⟨_, _, rfl, by rfl⟩
theorem cz (w : Word) : Statement (.cz w) := fun _ => ⟨_, _, rfl, by rfl⟩
theorem call (w : Word) : Statement (.call w) := fun _ => ⟨_, _, rfl, by rfl⟩
theorem aci (d8 : Byte) : Statement (.aci d8) := fun _ => ⟨_, _, rfl, by rfl⟩
theorem rst1 : Statement (.rst1) := fun _ => ⟨_, _, rfl, by rfl⟩
theorem rnc : Statement (.rnc) := fun _ => ⟨_, _, rfl, by rfl⟩
theorem popD : Statement (.popD) := fun _ => ⟨_, _, rfl, by rfl⟩
theorem jnc (w : Word) : Statement (.jnc w) := fun _ => ⟨_, _, rfl, by rfl⟩
theorem out (d8 : Byte) : Statement (.out d8) := fun _ => ⟨_, _, rfl, by rfl⟩
theorem cnc (w : Word) : Statement (.cnc w) := fun _ => ⟨_, _, rfl, by rfl⟩
theorem pushD : Statement (.pushD) := fun _ => ⟨_, _, rfl, by rfl⟩
theorem sui (d8 : Byte) : Statement (.sui d8) := fun _ => ⟨_, _, rfl, by rfl⟩
theorem rst2 : Statement (.rst2) := fun _ => ⟨_, _, rfl, by rfl⟩
theorem rc : Statement (.rc) := fun _ => ⟨_, _, rfl, by rfl⟩
theorem jc (w : Word) : Statement (.jc w) := fun _ => ⟨_, _, rfl, by rfl⟩
theorem inp (d8 : Byte) : Statement (.inp d8) := fun _ => ⟨_, _, rfl, by rfl⟩
theorem cc (w : Word) : Statement (.cc w) := fun _ => ⟨_, _, rfl, by rfl⟩
theorem sbi (d8 : Byte) : Statement (.sbi d8) := fun _ => ⟨_, _, rfl, by rfl⟩
theorem rst3 : Statement (.rst3) := fun _ => ⟨_, _, rfl, by rfl⟩
theorem rpo : Statement (.rpo) := fun _ => ⟨_, _, rfl, by rfl⟩
theorem popH : Statement (.popH) := fun _ => ⟨_, _, rfl, by rfl⟩
theorem jpo (w : Word) : Statement (.jpo w) := fun _ => ⟨_, _, rfl, by rfl⟩
theorem xthl : Statement (.xthl) := fun _ => ⟨_, _, rfl, by rfl⟩
theorem cpo (w : Word) : Statement (.cpo w) := fun _ => ⟨_, _, rfl, by rfl⟩
theorem pushH : Statement (.pushH) := fun _ => ⟨_, _, rfl, by rfl⟩
theorem ani (d8 : Byte) : Statement (.ani d8) := fun _ => ⟨_, _, rfl, by rfl⟩
theorem rst4 : Statement (.rst4) := fun _ => ⟨_, _, rfl, by rfl⟩
theorem rpe : Statement (.rpe) := fun _ => ⟨_, _, rfl, by rfl⟩
theorem pchl : Statement (.pchl) := fun _ => ⟨_, _, rfl, by rfl⟩
theorem jpe (w : Word) : Statement (.jpe w) := fun _ => ⟨_, _, rfl, by rfl⟩
theorem xchg : Statement (.xchg) := fun _ => ⟨_, _, rfl, by rfl⟩
theorem cpe (w : Word) : Statement (.cpe w) := fun _ => ⟨_, _, rfl, by rfl⟩
theorem xri (d8 : Byte) : Statement (.xri d8) := fun _ => ⟨_, _, rfl, by rfl⟩
theorem rst5 : Statement (.rst5) := fun _ => ⟨_, _, rfl, by rfl⟩
theorem rp : Statement (.rp) := fun _ => ⟨_, _, rfl, by rfl⟩
theorem popPSW : Statement (.popPSW) := fun _ => ⟨_, _, rfl, by rfl⟩
theorem jp (w : Word) : Statement (.jp w) := fun _ => ⟨_, _, rfl, by rfl⟩
theorem di : Statement (.di) := fun _ => ⟨_, _, rfl, by rfl⟩
theorem cp (w : Word) : Statement (.cp w) := fun _ => ⟨_, _, rfl, by rfl⟩
theorem pushPSW : Statement (.pushPSW) := fun _ => ⟨_, _, rfl, by rfl⟩
theorem ori (d8 : Byte) : Statement (.ori d8) := fun _ => ⟨_, _, rfl, by rfl⟩
theorem rst6 : Statement (.rst6) := fun _ => ⟨_, _, rfl, by rfl⟩
theorem rm : Statement (.rm) := fun _ => ⟨_, _, rfl, by rfl⟩
theorem sphl : Statement (.sphl) := fun _ => ⟨_, _, rfl, by rfl⟩
theorem jm (w : Word) : Statement (.jm w) := fun _ => ⟨_, _, rfl, by rfl⟩
theorem ei : Statement (.ei) := fun _ => ⟨_, _, rfl, by rfl⟩
theorem cm (w : Word) : Statement (.cm w) := fun _ => ⟨_, _, rfl, by rfl⟩
theorem cpi (d8 : Byte) : Statement (.cpi d8) := fun _ => ⟨_, _, rfl, by rfl⟩
theorem rst7 : Statement (.rst7) := fun _ => ⟨_, _, rfl, by rfl⟩

end Sys2Proof.Laws.EncodedLength
end

