-- ==== Sys2Proof/Laws/Step.lean ====
section
/-!
SUPPORT. What a step and an event of a run can do, said once.
-/
namespace Sys2Proof.Machine

/-- A step that gives a next state left a halted core alone, or executed the instruction at PC and accounted for it. -/
theorem step_next_cases {s t : State} (h : step s = .next t) :
    (s.halted = true ∧ t = s) ∨
    (s.halted = false ∧ ∃ u, exec s.fetchInstr s = .next u ∧ t = u.account s.fetchOpcode) := by
  unfold step at h
  cases hh : s.halted <;> rw [hh] at h
  · cases hx : exec s.fetchInstr s with
    | next u => rw [hx] at h; cases h; exact .inr ⟨rfl, u, rfl, rfl⟩
    | fault f => rw [hx] at h; cases h
    | refused r => rw [hx] at h; cases h
  · cases h; exact .inl ⟨rfl, rfl⟩

/-- A step of a running core is the execution of the instruction at PC, accounted for. -/
theorem step_running {s : State} (h : s.halted = false) : step s = accounted s.fetchOpcode (exec s.fetchInstr s) := by
  unfold step; rw [h]; rfl

/-- The state after a step call is the next state the step gives, or the state before. -/
theorem State.afterStep_cases (s : State) : step s = .next s.afterStep ∨ s.afterStep = s := by
  unfold State.afterStep
  cases h : step s with
  | next t => exact .inl rfl
  | fault f => exact .inr rfl
  | refused r => exact .inr rfl

@[simp] theorem State.run_nil (s : State) : s.run [] = s := rfl

@[simp] theorem State.run_cons (s : State) (e : Event) (events : List Event) : s.run (e :: events) = (s.after e).run events := rfl

theorem State.run_append (s : State) (events rest : List Event) : s.run (events ++ rest) = (s.run events).run rest :=
  List.foldl_append

/-! ## The end of a run -/

@[simp] theorem State.runToEnd_nil (s : State) : s.runToEnd [] = (.cut, s) := rfl

/-- A step that reports `continued` is followed by the rest of the run. -/
theorem State.runToEnd_continued {s : State} (h : s.report = some .continued) (rest : List Event) :
    s.runToEnd (.step :: rest) = s.afterStep.runToEnd rest := by simp [State.runToEnd, h]

/-- A step that reports `halted` ends the run, in the state after it. -/
theorem State.runToEnd_halted {s : State} (h : s.report = some .halted) (rest : List Event) :
    s.runToEnd (.step :: rest) = (.halted, s.afterStep) := by simp [State.runToEnd, h]

/-- A step that reports `fatal` ends the run, in the state before it. -/
theorem State.runToEnd_fatal {s : State} {op : Byte} {pc : Word} (h : s.report = some (.fatal op pc)) (rest : List Event) :
    s.runToEnd (.step :: rest) = (.fatal op pc, s) := by simp [State.runToEnd, h]

/-- A host action is followed by the rest of the run. -/
theorem State.runToEnd_action {e : Event} (he : e ≠ .step) (s : State) (rest : List Event) :
    s.runToEnd (e :: rest) = (s.after e).runToEnd rest := by
  cases e with
  | step => exact absurd rfl he
  | load _ _ | input _ _ | interrupt _ => rfl

end Sys2Proof.Machine
end

