-- ==== Sys2Proof/Tests/Slice0.lean ====
section
/-!
SUPPORT. The model's own tests: the WellFormed smoke test, a written-out word for every constructor, single steps whose
expected results are the rows of spec/95_test_vectors.md, and a named witness for the hypotheses of every statement.
-/
namespace Sys2Proof.Tests
open Sys2Proof.Machine

/-! ## Helpers -/

/-- The start state of section 2.1 of 95_test_vectors.md: reset, but for PC = 0x0100 and SP = 0x2400. -/
def base : State := { State.reset with pc := 0x0100, sp := 0x2400 }

def bit (n : Nat) : Bool := n == 1

/-- Flags in the order Z S P CY AC. -/
def fl (z s p cy ac : Nat) : Flags := { z := bit z, s := bit s, p := bit p, cy := bit cy, ac := bit ac }

/-- The state after one step of the instruction placed at PC, if it gives a next state. -/
def stepped (s : State) (nbits w : Nat) : Option State :=
  match step (s.withFetchWord nbits w) with
  | .next t => some t
  | .fault _ => none
  | .refused _ => none

/-! ## Well-formed and ill-formed terms -/

theorem test_wf_refuses_assigned_byte : (Instr.unassigned 0x00).illFormed = some (.assignedOpcode 0x00) := by decide
theorem test_wf_accepts_unassigned_byte : (Instr.unassigned 0xCB).WellFormed ∧ (Instr.hlt).WellFormed := by decide

/-! ## Decoding: every constructor from a word written out field by field (R81, R14, R15, R75, R231) -/
theorem test_decode_nop :
    decode 0b00000000 0xFF 0xFF = .nop := by decide
theorem test_decode_lxi_rp_d16 :
    decode 0b00_00_0001 0x34 0x12 = .lxiB 0x1234 ∧ decode 0b00_01_0001 0x34 0x12 = .lxiD 0x1234 ∧
    decode 0b00_10_0001 0x34 0x12 = .lxiH 0x1234 ∧ decode 0b00_11_0001 0x34 0x12 = .lxiSP 0x1234 := by decide
theorem test_decode_stax_rp :
    decode 0b000_0_0010 0xFF 0xFF = .staxB ∧ decode 0b000_1_0010 0xFF 0xFF = .staxD := by decide
theorem test_decode_inx_rp :
    decode 0b00_00_0011 0xFF 0xFF = .inxB ∧ decode 0b00_01_0011 0xFF 0xFF = .inxD ∧
    decode 0b00_10_0011 0xFF 0xFF = .inxH ∧ decode 0b00_11_0011 0xFF 0xFF = .inxSP := by decide
theorem test_decode_inr_r :
    decode 0b00_000_100 0xFF 0xFF = .inrB ∧ decode 0b00_001_100 0xFF 0xFF = .inrC ∧
    decode 0b00_010_100 0xFF 0xFF = .inrD ∧ decode 0b00_011_100 0xFF 0xFF = .inrE ∧
    decode 0b00_100_100 0xFF 0xFF = .inrH ∧ decode 0b00_101_100 0xFF 0xFF = .inrL ∧
    decode 0b00_111_100 0xFF 0xFF = .inrA := by decide
theorem test_decode_dcr_r :
    decode 0b00_000_101 0xFF 0xFF = .dcrB ∧ decode 0b00_001_101 0xFF 0xFF = .dcrC ∧
    decode 0b00_010_101 0xFF 0xFF = .dcrD ∧ decode 0b00_011_101 0xFF 0xFF = .dcrE ∧
    decode 0b00_100_101 0xFF 0xFF = .dcrH ∧ decode 0b00_101_101 0xFF 0xFF = .dcrL ∧
    decode 0b00_111_101 0xFF 0xFF = .dcrA := by decide
theorem test_decode_mvi_r_d8 :
    decode 0b00_000_110 0x5A 0xFF = .mviB 0x5A ∧ decode 0b00_001_110 0x5A 0xFF = .mviC 0x5A ∧
    decode 0b00_010_110 0x5A 0xFF = .mviD 0x5A ∧ decode 0b00_011_110 0x5A 0xFF = .mviE 0x5A ∧
    decode 0b00_100_110 0x5A 0xFF = .mviH 0x5A ∧ decode 0b00_101_110 0x5A 0xFF = .mviL 0x5A ∧
    decode 0b00_111_110 0x5A 0xFF = .mviA 0x5A := by decide
theorem test_decode_rlc :
    decode 0b00000111 0xFF 0xFF = .rlc := by decide
theorem test_decode_unassigned :
    decode 0b00001000 0xFF 0xFF = .unassigned 0b00001000 ∧ decode 0b00010000 0xFF 0xFF = .unassigned 0b00010000 ∧
    decode 0b00011000 0xFF 0xFF = .unassigned 0b00011000 ∧ decode 0b00100000 0xFF 0xFF = .unassigned 0b00100000 ∧
    decode 0b00101000 0xFF 0xFF = .unassigned 0b00101000 ∧ decode 0b00110000 0xFF 0xFF = .unassigned 0b00110000 ∧
    decode 0b00111000 0xFF 0xFF = .unassigned 0b00111000 ∧ decode 0b11001011 0xFF 0xFF = .unassigned 0b11001011 ∧
    decode 0b11011001 0xFF 0xFF = .unassigned 0b11011001 ∧ decode 0b11011101 0xFF 0xFF = .unassigned 0b11011101 ∧
    decode 0b11101101 0xFF 0xFF = .unassigned 0b11101101 ∧ decode 0b11111101 0xFF 0xFF = .unassigned 0b11111101 := by decide
theorem test_decode_dad_rp :
    decode 0b00_00_1001 0xFF 0xFF = .dadB ∧ decode 0b00_01_1001 0xFF 0xFF = .dadD ∧
    decode 0b00_10_1001 0xFF 0xFF = .dadH ∧ decode 0b00_11_1001 0xFF 0xFF = .dadSP := by decide
theorem test_decode_ldax_rp :
    decode 0b000_0_1010 0xFF 0xFF = .ldaxB ∧ decode 0b000_1_1010 0xFF 0xFF = .ldaxD := by decide
theorem test_decode_dcx_rp :
    decode 0b00_00_1011 0xFF 0xFF = .dcxB ∧ decode 0b00_01_1011 0xFF 0xFF = .dcxD ∧
    decode 0b00_10_1011 0xFF 0xFF = .dcxH ∧ decode 0b00_11_1011 0xFF 0xFF = .dcxSP := by decide
theorem test_decode_rrc :
    decode 0b00001111 0xFF 0xFF = .rrc := by decide
theorem test_decode_ral :
    decode 0b00010111 0xFF 0xFF = .ral := by decide
theorem test_decode_rar :
    decode 0b00011111 0xFF 0xFF = .rar := by decide
theorem test_decode_shld_a16 :
    decode 0b00100010 0x34 0x12 = .shld 0x1234 := by decide
theorem test_decode_daa :
    decode 0b00100111 0xFF 0xFF = .daa := by decide
theorem test_decode_lhld_a16 :
    decode 0b00101010 0x34 0x12 = .lhld 0x1234 := by decide
theorem test_decode_cma :
    decode 0b00101111 0xFF 0xFF = .cma := by decide
theorem test_decode_sta_a16 :
    decode 0b00110010 0x34 0x12 = .sta 0x1234 := by decide
theorem test_decode_inr_m :
    decode 0b00_110_100 0xFF 0xFF = .inrM := by decide
theorem test_decode_dcr_m :
    decode 0b00_110_101 0xFF 0xFF = .dcrM := by decide
theorem test_decode_mvi_m_d8 :
    decode 0b00_110_110 0x5A 0xFF = .mviM 0x5A := by decide
theorem test_decode_stc :
    decode 0b00110111 0xFF 0xFF = .stc := by decide
theorem test_decode_lda_a16 :
    decode 0b00111010 0x34 0x12 = .lda 0x1234 := by decide
theorem test_decode_cmc :
    decode 0b00111111 0xFF 0xFF = .cmc := by decide
theorem test_decode_mov_r1_r2 :
    decode 0b01_000_000 0xFF 0xFF = .movBB ∧ decode 0b01_000_001 0xFF 0xFF = .movBC ∧
    decode 0b01_000_010 0xFF 0xFF = .movBD ∧ decode 0b01_000_011 0xFF 0xFF = .movBE ∧
    decode 0b01_000_100 0xFF 0xFF = .movBH ∧ decode 0b01_000_101 0xFF 0xFF = .movBL ∧
    decode 0b01_000_111 0xFF 0xFF = .movBA ∧ decode 0b01_001_000 0xFF 0xFF = .movCB ∧
    decode 0b01_001_001 0xFF 0xFF = .movCC ∧ decode 0b01_001_010 0xFF 0xFF = .movCD ∧
    decode 0b01_001_011 0xFF 0xFF = .movCE ∧ decode 0b01_001_100 0xFF 0xFF = .movCH ∧
    decode 0b01_001_101 0xFF 0xFF = .movCL ∧ decode 0b01_001_111 0xFF 0xFF = .movCA ∧
    decode 0b01_010_000 0xFF 0xFF = .movDB ∧ decode 0b01_010_001 0xFF 0xFF = .movDC ∧
    decode 0b01_010_010 0xFF 0xFF = .movDD ∧ decode 0b01_010_011 0xFF 0xFF = .movDE ∧
    decode 0b01_010_100 0xFF 0xFF = .movDH ∧ decode 0b01_010_101 0xFF 0xFF = .movDL ∧
    decode 0b01_010_111 0xFF 0xFF = .movDA ∧ decode 0b01_011_000 0xFF 0xFF = .movEB ∧
    decode 0b01_011_001 0xFF 0xFF = .movEC ∧ decode 0b01_011_010 0xFF 0xFF = .movED ∧
    decode 0b01_011_011 0xFF 0xFF = .movEE ∧ decode 0b01_011_100 0xFF 0xFF = .movEH ∧
    decode 0b01_011_101 0xFF 0xFF = .movEL ∧ decode 0b01_011_111 0xFF 0xFF = .movEA ∧
    decode 0b01_100_000 0xFF 0xFF = .movHB ∧ decode 0b01_100_001 0xFF 0xFF = .movHC ∧
    decode 0b01_100_010 0xFF 0xFF = .movHD ∧ decode 0b01_100_011 0xFF 0xFF = .movHE ∧
    decode 0b01_100_100 0xFF 0xFF = .movHH ∧ decode 0b01_100_101 0xFF 0xFF = .movHL ∧
    decode 0b01_100_111 0xFF 0xFF = .movHA ∧ decode 0b01_101_000 0xFF 0xFF = .movLB ∧
    decode 0b01_101_001 0xFF 0xFF = .movLC ∧ decode 0b01_101_010 0xFF 0xFF = .movLD ∧
    decode 0b01_101_011 0xFF 0xFF = .movLE ∧ decode 0b01_101_100 0xFF 0xFF = .movLH ∧
    decode 0b01_101_101 0xFF 0xFF = .movLL ∧ decode 0b01_101_111 0xFF 0xFF = .movLA ∧
    decode 0b01_111_000 0xFF 0xFF = .movAB ∧ decode 0b01_111_001 0xFF 0xFF = .movAC ∧
    decode 0b01_111_010 0xFF 0xFF = .movAD ∧ decode 0b01_111_011 0xFF 0xFF = .movAE ∧
    decode 0b01_111_100 0xFF 0xFF = .movAH ∧ decode 0b01_111_101 0xFF 0xFF = .movAL ∧
    decode 0b01_111_111 0xFF 0xFF = .movAA := by decide
theorem test_decode_mov_r_m :
    decode 0b01_000_110 0xFF 0xFF = .movBM ∧ decode 0b01_001_110 0xFF 0xFF = .movCM ∧
    decode 0b01_010_110 0xFF 0xFF = .movDM ∧ decode 0b01_011_110 0xFF 0xFF = .movEM ∧
    decode 0b01_100_110 0xFF 0xFF = .movHM ∧ decode 0b01_101_110 0xFF 0xFF = .movLM ∧
    decode 0b01_111_110 0xFF 0xFF = .movAM := by decide
theorem test_decode_mov_m_r :
    decode 0b01_110_000 0xFF 0xFF = .movMB ∧ decode 0b01_110_001 0xFF 0xFF = .movMC ∧
    decode 0b01_110_010 0xFF 0xFF = .movMD ∧ decode 0b01_110_011 0xFF 0xFF = .movME ∧
    decode 0b01_110_100 0xFF 0xFF = .movMH ∧ decode 0b01_110_101 0xFF 0xFF = .movML ∧
    decode 0b01_110_111 0xFF 0xFF = .movMA := by decide
theorem test_decode_hlt :
    decode 0b01110110 0xFF 0xFF = .hlt := by decide
theorem test_decode_add_r :
    decode 0b10_000_000 0xFF 0xFF = .addB ∧ decode 0b10_000_001 0xFF 0xFF = .addC ∧
    decode 0b10_000_010 0xFF 0xFF = .addD ∧ decode 0b10_000_011 0xFF 0xFF = .addE ∧
    decode 0b10_000_100 0xFF 0xFF = .addH ∧ decode 0b10_000_101 0xFF 0xFF = .addL ∧
    decode 0b10_000_111 0xFF 0xFF = .addA := by decide
theorem test_decode_add_m :
    decode 0b10_000_110 0xFF 0xFF = .addM := by decide
theorem test_decode_adc_r :
    decode 0b10_001_000 0xFF 0xFF = .adcB ∧ decode 0b10_001_001 0xFF 0xFF = .adcC ∧
    decode 0b10_001_010 0xFF 0xFF = .adcD ∧ decode 0b10_001_011 0xFF 0xFF = .adcE ∧
    decode 0b10_001_100 0xFF 0xFF = .adcH ∧ decode 0b10_001_101 0xFF 0xFF = .adcL ∧
    decode 0b10_001_111 0xFF 0xFF = .adcA := by decide
theorem test_decode_adc_m :
    decode 0b10_001_110 0xFF 0xFF = .adcM := by decide
theorem test_decode_sub_r :
    decode 0b10_010_000 0xFF 0xFF = .subB ∧ decode 0b10_010_001 0xFF 0xFF = .subC ∧
    decode 0b10_010_010 0xFF 0xFF = .subD ∧ decode 0b10_010_011 0xFF 0xFF = .subE ∧
    decode 0b10_010_100 0xFF 0xFF = .subH ∧ decode 0b10_010_101 0xFF 0xFF = .subL ∧
    decode 0b10_010_111 0xFF 0xFF = .subA := by decide
theorem test_decode_sub_m :
    decode 0b10_010_110 0xFF 0xFF = .subM := by decide
theorem test_decode_sbb_r :
    decode 0b10_011_000 0xFF 0xFF = .sbbB ∧ decode 0b10_011_001 0xFF 0xFF = .sbbC ∧
    decode 0b10_011_010 0xFF 0xFF = .sbbD ∧ decode 0b10_011_011 0xFF 0xFF = .sbbE ∧
    decode 0b10_011_100 0xFF 0xFF = .sbbH ∧ decode 0b10_011_101 0xFF 0xFF = .sbbL ∧
    decode 0b10_011_111 0xFF 0xFF = .sbbA := by decide
theorem test_decode_sbb_m :
    decode 0b10_011_110 0xFF 0xFF = .sbbM := by decide
theorem test_decode_ana_r :
    decode 0b10_100_000 0xFF 0xFF = .anaB ∧ decode 0b10_100_001 0xFF 0xFF = .anaC ∧
    decode 0b10_100_010 0xFF 0xFF = .anaD ∧ decode 0b10_100_011 0xFF 0xFF = .anaE ∧
    decode 0b10_100_100 0xFF 0xFF = .anaH ∧ decode 0b10_100_101 0xFF 0xFF = .anaL ∧
    decode 0b10_100_111 0xFF 0xFF = .anaA := by decide
theorem test_decode_ana_m :
    decode 0b10_100_110 0xFF 0xFF = .anaM := by decide
theorem test_decode_xra_r :
    decode 0b10_101_000 0xFF 0xFF = .xraB ∧ decode 0b10_101_001 0xFF 0xFF = .xraC ∧
    decode 0b10_101_010 0xFF 0xFF = .xraD ∧ decode 0b10_101_011 0xFF 0xFF = .xraE ∧
    decode 0b10_101_100 0xFF 0xFF = .xraH ∧ decode 0b10_101_101 0xFF 0xFF = .xraL ∧
    decode 0b10_101_111 0xFF 0xFF = .xraA := by decide
theorem test_decode_xra_m :
    decode 0b10_101_110 0xFF 0xFF = .xraM := by decide
theorem test_decode_ora_r :
    decode 0b10_110_000 0xFF 0xFF = .oraB ∧ decode 0b10_110_001 0xFF 0xFF = .oraC ∧
    decode 0b10_110_010 0xFF 0xFF = .oraD ∧ decode 0b10_110_011 0xFF 0xFF = .oraE ∧
    decode 0b10_110_100 0xFF 0xFF = .oraH ∧ decode 0b10_110_101 0xFF 0xFF = .oraL ∧
    decode 0b10_110_111 0xFF 0xFF = .oraA := by decide
theorem test_decode_ora_m :
    decode 0b10_110_110 0xFF 0xFF = .oraM := by decide
theorem test_decode_cmp_r :
    decode 0b10_111_000 0xFF 0xFF = .cmpB ∧ decode 0b10_111_001 0xFF 0xFF = .cmpC ∧
    decode 0b10_111_010 0xFF 0xFF = .cmpD ∧ decode 0b10_111_011 0xFF 0xFF = .cmpE ∧
    decode 0b10_111_100 0xFF 0xFF = .cmpH ∧ decode 0b10_111_101 0xFF 0xFF = .cmpL ∧
    decode 0b10_111_111 0xFF 0xFF = .cmpA := by decide
theorem test_decode_cmp_m :
    decode 0b10_111_110 0xFF 0xFF = .cmpM := by decide
theorem test_decode_rccc :
    decode 0b11_000_000 0xFF 0xFF = .rnz ∧ decode 0b11_001_000 0xFF 0xFF = .rz ∧
    decode 0b11_010_000 0xFF 0xFF = .rnc ∧ decode 0b11_011_000 0xFF 0xFF = .rc ∧
    decode 0b11_100_000 0xFF 0xFF = .rpo ∧ decode 0b11_101_000 0xFF 0xFF = .rpe ∧
    decode 0b11_110_000 0xFF 0xFF = .rp ∧ decode 0b11_111_000 0xFF 0xFF = .rm := by decide
theorem test_decode_pop_rp :
    decode 0b11_00_0001 0xFF 0xFF = .popB ∧ decode 0b11_01_0001 0xFF 0xFF = .popD ∧
    decode 0b11_10_0001 0xFF 0xFF = .popH := by decide
theorem test_decode_jccc_a16 :
    decode 0b11_000_010 0x34 0x12 = .jnz 0x1234 ∧ decode 0b11_001_010 0x34 0x12 = .jz 0x1234 ∧
    decode 0b11_010_010 0x34 0x12 = .jnc 0x1234 ∧ decode 0b11_011_010 0x34 0x12 = .jc 0x1234 ∧
    decode 0b11_100_010 0x34 0x12 = .jpo 0x1234 ∧ decode 0b11_101_010 0x34 0x12 = .jpe 0x1234 ∧
    decode 0b11_110_010 0x34 0x12 = .jp 0x1234 ∧ decode 0b11_111_010 0x34 0x12 = .jm 0x1234 := by decide
theorem test_decode_jmp_a16 :
    decode 0b11000011 0x34 0x12 = .jmp 0x1234 := by decide
theorem test_decode_cccc_a16 :
    decode 0b11_000_100 0x34 0x12 = .cnz 0x1234 ∧ decode 0b11_001_100 0x34 0x12 = .cz 0x1234 ∧
    decode 0b11_010_100 0x34 0x12 = .cnc 0x1234 ∧ decode 0b11_011_100 0x34 0x12 = .cc 0x1234 ∧
    decode 0b11_100_100 0x34 0x12 = .cpo 0x1234 ∧ decode 0b11_101_100 0x34 0x12 = .cpe 0x1234 ∧
    decode 0b11_110_100 0x34 0x12 = .cp 0x1234 ∧ decode 0b11_111_100 0x34 0x12 = .cm 0x1234 := by decide
theorem test_decode_push_rp :
    decode 0b11_00_0101 0xFF 0xFF = .pushB ∧ decode 0b11_01_0101 0xFF 0xFF = .pushD ∧
    decode 0b11_10_0101 0xFF 0xFF = .pushH := by decide
theorem test_decode_adi_d8 :
    decode 0b11_000_110 0x5A 0xFF = .adi 0x5A := by decide
theorem test_decode_rst_n :
    decode 0b11_000_111 0xFF 0xFF = .rst0 ∧ decode 0b11_001_111 0xFF 0xFF = .rst1 ∧
    decode 0b11_010_111 0xFF 0xFF = .rst2 ∧ decode 0b11_011_111 0xFF 0xFF = .rst3 ∧
    decode 0b11_100_111 0xFF 0xFF = .rst4 ∧ decode 0b11_101_111 0xFF 0xFF = .rst5 ∧
    decode 0b11_110_111 0xFF 0xFF = .rst6 ∧ decode 0b11_111_111 0xFF 0xFF = .rst7 := by decide
theorem test_decode_ret :
    decode 0b11001001 0xFF 0xFF = .ret := by decide
theorem test_decode_call_a16 :
    decode 0b11001101 0x34 0x12 = .call 0x1234 := by decide
theorem test_decode_aci_d8 :
    decode 0b11_001_110 0x5A 0xFF = .aci 0x5A := by decide
theorem test_decode_out_d8 :
    decode 0b11010011 0x5A 0xFF = .out 0x5A := by decide
theorem test_decode_sui_d8 :
    decode 0b11_010_110 0x5A 0xFF = .sui 0x5A := by decide
theorem test_decode_in_d8 :
    decode 0b11011011 0x5A 0xFF = .inp 0x5A := by decide
theorem test_decode_sbi_d8 :
    decode 0b11_011_110 0x5A 0xFF = .sbi 0x5A := by decide
theorem test_decode_xthl :
    decode 0b11100011 0xFF 0xFF = .xthl := by decide
theorem test_decode_ani_d8 :
    decode 0b11_100_110 0x5A 0xFF = .ani 0x5A := by decide
theorem test_decode_pchl :
    decode 0b11101001 0xFF 0xFF = .pchl := by decide
theorem test_decode_xchg :
    decode 0b11101011 0xFF 0xFF = .xchg := by decide
theorem test_decode_xri_d8 :
    decode 0b11_101_110 0x5A 0xFF = .xri 0x5A := by decide
theorem test_decode_pop_psw :
    decode 0b11_11_0001 0xFF 0xFF = .popPSW := by decide
theorem test_decode_di :
    decode 0b11110011 0xFF 0xFF = .di := by decide
theorem test_decode_push_psw :
    decode 0b11_11_0101 0xFF 0xFF = .pushPSW := by decide
theorem test_decode_ori_d8 :
    decode 0b11_110_110 0x5A 0xFF = .ori 0x5A := by decide
theorem test_decode_sphl :
    decode 0b11111001 0xFF 0xFF = .sphl := by decide
theorem test_decode_ei :
    decode 0b11111011 0xFF 0xFF = .ei := by decide
theorem test_decode_cpi_d8 :
    decode 0b11_111_110 0x5A 0xFF = .cpi 0x5A := by decide

/-- A byte list that ends inside an instruction is refused by name. -/
theorem test_decode_refuses_short_input :
    decodeBytes [] = .error .noOpcode ∧ decodeBytes [0xC3, 0x34] = .error (.missingOperand 0xC3) ∧
    decodeBytes [0xC3, 0x34, 0x12, 0x76] = .ok (.jmp 0x1234, [0x76]) := ⟨rfl, rfl, rfl⟩

/-- Bits above `nbits` are read as 0. -/
theorem test_decode_table_word :
    decodeTableWord 8 0x12C3 = some (.jmp 0x0000) ∧ decodeTableWord 24 0x1234C3 = some (.jmp 0x1234) := by decide

/-! ## Single steps: rows of 95_test_vectors.md, sections 2.2 to 2.7 -/
theorem test_add_b_1 : (stepped ({ base with a := 0x6C, b := 0x2E }) 8 0x80).map (fun t => ([t.a, t.b], t.flags, t.pc)) =
    some ([0x9A, 0x2E], fl 0 1 1 0 1, 0x0101) := by decide
theorem test_add_c_1 : (stepped ({ base with a := 0xFF, c := 0x01 }) 8 0x81).map (fun t => ([t.a, t.c], t.flags, t.pc)) =
    some ([0x00, 0x01], fl 1 0 1 1 1, 0x0101) := by decide
theorem test_add_m_1 : (stepped ({ base with a := 0x0F, h := 0x21, l := 0x00, mem := [(0x2100, 0x01)] }) 8 0x86).map (fun t => ([t.a, t.h, t.l, t.cell 0x2100], t.flags, t.pc)) =
    some ([0x10, 0x21, 0x00, 0x01], fl 0 0 0 0 1, 0x0101) := by decide
theorem test_adc_c_1 : (stepped ({ base with a := 0x3D, c := 0x42, flags := fl 0 0 0 1 0 }) 8 0x89).map (fun t => ([t.a, t.c], t.flags, t.pc)) =
    some ([0x80, 0x42], fl 0 1 0 0 1, 0x0101) := by decide
theorem test_adc_b_1 : (stepped ({ base with a := 0xFF, b := 0x00, flags := fl 0 0 0 1 0 }) 8 0x88).map (fun t => ([t.a, t.b], t.flags, t.pc)) =
    some ([0x00, 0x00], fl 1 0 1 1 1, 0x0101) := by decide
theorem test_adi_be_1 : (stepped ({ base with a := 0x56 }) 16 0xBEC6).map (fun t => ([t.a], t.flags, t.pc)) =
    some ([0x14], fl 0 0 1 1 1, 0x0102) := by decide
theorem test_aci_ff_1 : (stepped ({ base with a := 0x00, flags := fl 0 0 0 1 0 }) 16 0xFFCE).map (fun t => ([t.a], t.flags, t.pc)) =
    some ([0x00], fl 1 0 1 1 1, 0x0102) := by decide
theorem test_sub_a_1 : (stepped ({ base with a := 0x3E }) 8 0x97).map (fun t => ([t.a], t.flags, t.pc)) =
    some ([0x00], fl 1 0 1 0 1, 0x0101) := by decide
theorem test_sub_b_1 : (stepped ({ base with a := 0x00, b := 0x01 }) 8 0x90).map (fun t => ([t.a, t.b], t.flags, t.pc)) =
    some ([0xFF, 0x01], fl 0 1 1 1 0, 0x0101) := by decide
theorem test_sbb_b_1 : (stepped ({ base with a := 0x05, b := 0x05, flags := fl 0 0 0 1 0 }) 8 0x98).map (fun t => ([t.a, t.b], t.flags, t.pc)) =
    some ([0xFF, 0x05], fl 0 1 1 1 0, 0x0101) := by decide
theorem test_sbb_l_1 : (stepped ({ base with a := 0x04, l := 0x02, flags := fl 0 0 0 1 0 }) 8 0x9D).map (fun t => ([t.a, t.l], t.flags, t.pc)) =
    some ([0x01, 0x02], fl 0 0 0 0 1, 0x0101) := by decide
theorem test_sui_01_1 : (stepped ({ base with a := 0x00 }) 16 0x01D6).map (fun t => ([t.a], t.flags, t.pc)) =
    some ([0xFF], fl 0 1 1 1 0, 0x0102) := by decide
theorem test_sui_0f_1 : (stepped ({ base with a := 0x1F }) 16 0x0FD6).map (fun t => ([t.a], t.flags, t.pc)) =
    some ([0x10], fl 0 0 0 0 1, 0x0102) := by decide
theorem test_sbi_01_1 : (stepped ({ base with a := 0x00, flags := fl 0 0 0 1 0 }) 16 0x01DE).map (fun t => ([t.a], t.flags, t.pc)) =
    some ([0xFE], fl 0 1 0 1 0, 0x0102) := by decide
theorem test_cmp_e_1 : (stepped ({ base with a := 0x02, e := 0x05 }) 8 0xBB).map (fun t => ([t.a, t.e], t.flags, t.pc)) =
    some ([0x02, 0x05], fl 0 1 0 1 0, 0x0101) := by decide
theorem test_cmp_e_2 : (stepped ({ base with a := 0xE5, e := 0x05 }) 8 0xBB).map (fun t => ([t.a, t.e], t.flags, t.pc)) =
    some ([0xE5, 0x05], fl 0 1 0 0 1, 0x0101) := by decide
theorem test_cmp_a_1 : (stepped ({ base with a := 0x77, flags := fl 0 0 0 1 0 }) 8 0xBF).map (fun t => ([t.a], t.flags, t.pc)) =
    some ([0x77], fl 1 0 1 0 1, 0x0101) := by decide
theorem test_cpi_4a_1 : (stepped ({ base with a := 0x4A }) 16 0x4AFE).map (fun t => ([t.a], t.flags, t.pc)) =
    some ([0x4A], fl 1 0 1 0 1, 0x0102) := by decide
theorem test_inr_a_1 : (stepped ({ base with a := 0x0F, flags := fl 0 0 0 1 0 }) 8 0x3C).map (fun t => ([t.a], t.flags, t.pc)) =
    some ([0x10], fl 0 0 0 1 1, 0x0101) := by decide
theorem test_inr_m_1 : (stepped ({ base with h := 0x10, l := 0x00, mem := [(0x1000, 0xFF)] }) 8 0x34).map (fun t => ([t.h, t.l, t.cell 0x1000], t.flags, t.pc)) =
    some ([0x10, 0x00, 0xFF], fl 1 0 1 0 1, 0x0101) := by decide
theorem test_inr_m_2 : (stepped ({ base with h := 0x21, l := 0x00, mem := [(0x2100, 0x3F)] }) 8 0x34).map (fun t => ([t.h, t.l, t.cell 0x2100], t.flags, t.pc)) =
    some ([0x21, 0x00, 0x40], fl 0 0 0 0 1, 0x0101) := by decide
theorem test_dcr_b_1 : (stepped ({ base with b := 0x00 }) 8 0x05).map (fun t => ([t.b], t.flags, t.pc)) =
    some ([0xFF], fl 0 1 1 0 0, 0x0101) := by decide
theorem test_dcr_m_1 : (stepped ({ base with h := 0x3A, l := 0x7C, mem := [(0x3A7C, 0x40)] }) 8 0x35).map (fun t => ([t.h, t.l, t.cell 0x3A7C], t.flags, t.pc)) =
    some ([0x3A, 0x7C, 0x3F], fl 0 0 1 0 0, 0x0101) := by decide
theorem test_inx_d_1 : (stepped ({ base with d := 0x38, e := 0xFF }) 8 0x13).map (fun t => ([t.d, t.e], t.flags, t.pc)) =
    some ([0x39, 0x00], fl 0 0 0 0 0, 0x0101) := by decide
theorem test_inx_sp_1 : (stepped ({ base with sp := 0xFFFF }) 8 0x33).map (fun t => (t.sp, t.flags, t.pc)) =
    some (0x0000, fl 0 0 0 0 0, 0x0101) := by decide
theorem test_dcx_h_1 : (stepped ({ base with h := 0x98, l := 0x00 }) 8 0x2B).map (fun t => ([t.h, t.l], t.flags, t.pc)) =
    some ([0x97, 0xFF], fl 0 0 0 0 0, 0x0101) := by decide
theorem test_dcx_sp_1 : (stepped ({ base with sp := 0x0000 }) 8 0x3B).map (fun t => (t.sp, t.flags, t.pc)) =
    some (0xFFFF, fl 0 0 0 0 0, 0x0101) := by decide
theorem test_dad_h_1 : (stepped ({ base with h := 0x80, l := 0x01, flags := fl 1 0 0 0 1 }) 8 0x29).map (fun t => ([t.h, t.l], t.flags, t.pc)) =
    some ([0x00, 0x02], fl 1 0 0 1 1, 0x0101) := by decide
theorem test_dad_sp_1 : (stepped ({ base with sp := 0xFFFF, h := 0x00, l := 0x01 }) 8 0x39).map (fun t => ([t.h, t.l], t.sp, t.flags, t.pc)) =
    some ([0x00, 0x00], 0xFFFF, fl 0 0 0 1 0, 0x0101) := by decide
theorem test_daa_1 : (stepped ({ base with a := 0x9A, flags := fl 0 0 0 0 0 }) 8 0x27).map (fun t => ([t.a], t.flags, t.pc)) =
    some ([0x00], fl 1 0 1 1 1, 0x0101) := by decide
theorem test_daa_2 : (stepped ({ base with a := 0x12, flags := fl 0 0 0 0 1 }) 8 0x27).map (fun t => ([t.a], t.flags, t.pc)) =
    some ([0x18], fl 0 0 1 0 0, 0x0101) := by decide
theorem test_ana_c_1 : (stepped ({ base with a := 0xFC, c := 0x0F, flags := fl 0 0 0 1 0 }) 8 0xA1).map (fun t => ([t.a, t.c], t.flags, t.pc)) =
    some ([0x0C, 0x0F], fl 0 0 1 0 1, 0x0101) := by decide
theorem test_ana_b_1 : (stepped ({ base with a := 0xF0, b := 0x0F }) 8 0xA0).map (fun t => ([t.a, t.b], t.flags, t.pc)) =
    some ([0x00, 0x0F], fl 1 0 1 0 1, 0x0101) := by decide
theorem test_ani_0f_1 : (stepped ({ base with a := 0x3A, flags := fl 0 0 0 1 0 }) 16 0x0FE6).map (fun t => ([t.a], t.flags, t.pc)) =
    some ([0x0A], fl 0 0 1 0 1, 0x0102) := by decide
theorem test_ani_f0_1 : (stepped ({ base with a := 0x37 }) 16 0xF0E6).map (fun t => ([t.a], t.flags, t.pc)) =
    some ([0x30], fl 0 0 1 0 0, 0x0102) := by decide
theorem test_xra_a_1 : (stepped ({ base with a := 0x5C, flags := fl 0 0 0 1 1 }) 8 0xAF).map (fun t => ([t.a], t.flags, t.pc)) =
    some ([0x00], fl 1 0 1 0 0, 0x0101) := by decide
theorem test_xri_81_1 : (stepped ({ base with a := 0x3B, flags := fl 0 0 0 1 0 }) 16 0x81EE).map (fun t => ([t.a], t.flags, t.pc)) =
    some ([0xBA], fl 0 1 0 0 0, 0x0102) := by decide
theorem test_ora_c_1 : (stepped ({ base with a := 0x33, c := 0x0F, flags := fl 0 0 0 1 1 }) 8 0xB1).map (fun t => ([t.a, t.c], t.flags, t.pc)) =
    some ([0x3F, 0x0F], fl 0 0 1 0 0, 0x0101) := by decide
theorem test_ori_0f_1 : (stepped ({ base with a := 0xB5, flags := fl 0 0 0 1 0 }) 16 0x0FF6).map (fun t => ([t.a], t.flags, t.pc)) =
    some ([0xBF], fl 0 1 0 0 0, 0x0102) := by decide
theorem test_cma_1 : (stepped ({ base with a := 0x51, flags := fl 1 0 0 1 0 }) 8 0x2F).map (fun t => ([t.a], t.flags, t.pc)) =
    some ([0xAE], fl 1 0 0 1 0, 0x0101) := by decide
theorem test_stc_1 : (stepped ({ base with flags := fl 0 0 0 0 0 }) 8 0x37).map (fun t => (t.flags, t.pc)) =
    some (fl 0 0 0 1 0, 0x0101) := by decide
theorem test_cmc_1 : (stepped ({ base with flags := fl 0 0 0 1 0 }) 8 0x3F).map (fun t => (t.flags, t.pc)) =
    some (fl 0 0 0 0 0, 0x0101) := by decide
theorem test_rlc_1 : (stepped ({ base with a := 0x01, flags := fl 0 0 0 1 0 }) 8 0x07).map (fun t => ([t.a], t.flags, t.pc)) =
    some ([0x02], fl 0 0 0 0 0, 0x0101) := by decide
theorem test_rlc_2 : (stepped ({ base with a := 0x80 }) 8 0x07).map (fun t => ([t.a], t.flags, t.pc)) =
    some ([0x01], fl 0 0 0 1 0, 0x0101) := by decide
theorem test_rrc_1 : (stepped ({ base with a := 0xF2, flags := fl 0 0 0 1 0 }) 8 0x0F).map (fun t => ([t.a], t.flags, t.pc)) =
    some ([0x79], fl 0 0 0 0 0, 0x0101) := by decide
theorem test_rrc_2 : (stepped ({ base with a := 0x01 }) 8 0x0F).map (fun t => ([t.a], t.flags, t.pc)) =
    some ([0x80], fl 0 0 0 1 0, 0x0101) := by decide
theorem test_ral_1 : (stepped ({ base with a := 0xB5, flags := fl 0 0 0 0 0 }) 8 0x17).map (fun t => ([t.a], t.flags, t.pc)) =
    some ([0x6A], fl 0 0 0 1 0, 0x0101) := by decide
theorem test_ral_2 : (stepped ({ base with a := 0x00, flags := fl 0 0 0 1 0 }) 8 0x17).map (fun t => ([t.a], t.flags, t.pc)) =
    some ([0x01], fl 0 0 0 0 0, 0x0101) := by decide
theorem test_rar_1 : (stepped ({ base with a := 0x6A, flags := fl 0 0 0 1 0 }) 8 0x1F).map (fun t => ([t.a], t.flags, t.pc)) =
    some ([0xB5], fl 0 0 0 0 0, 0x0101) := by decide
theorem test_rar_2 : (stepped ({ base with a := 0x00, flags := fl 1 0 0 1 0 }) 8 0x1F).map (fun t => ([t.a], t.flags, t.pc)) =
    some ([0x80], fl 1 0 0 0 0, 0x0101) := by decide
theorem test_mov_b_e_1 : (stepped ({ base with e := 0x7A }) 8 0x43).map (fun t => ([t.e, t.b], t.flags, t.pc)) =
    some ([0x7A, 0x7A], fl 0 0 0 0 0, 0x0101) := by decide
theorem test_mov_a_m_1 : (stepped ({ base with h := 0x61, l := 0x00, mem := [(0x2100, 0x5A)] }) 8 0x7E).map (fun t => ([t.h, t.l, t.a, t.cell 0x2100], t.flags, t.pc)) =
    some ([0x61, 0x00, 0x5A, 0x5A], fl 0 0 0 0 0, 0x0101) := by decide
theorem test_mov_h_m_1 : (stepped ({ base with h := 0x21, l := 0x00, mem := [(0x2100, 0x3F)] }) 8 0x66).map (fun t => ([t.h, t.l, t.cell 0x2100], t.flags, t.pc)) =
    some ([0x3F, 0x00, 0x3F], fl 0 0 0 0 0, 0x0101) := by decide
theorem test_mov_m_a_1 : (stepped ({ base with h := 0x10, l := 0x00, a := 0xAB }) 8 0x77).map (fun t => ([t.h, t.l, t.a], t.flags, t.pc)) =
    some ([0x10, 0x00, 0xAB], fl 0 0 0 0 0, 0x0101) := by decide
theorem test_mov_m_h_1 : (stepped ({ base with h := 0x3F, l := 0xFF }) 8 0x74).map (fun t => ([t.h, t.l, t.cell 0x3FFF], t.flags, t.pc)) =
    some ([0x3F, 0xFF, 0x3F], fl 0 0 0 0 0, 0x0101) := by decide
theorem test_mvi_l_ff_1 : (stepped (base) 16 0xFF2E).map (fun t => ([t.l], t.flags, t.pc)) =
    some ([0xFF], fl 0 0 0 0 0, 0x0102) := by decide
theorem test_mvi_m_7e_1 : (stepped ({ base with h := 0x1F, l := 0xFF }) 16 0x7E36).map (fun t => ([t.h, t.l], t.flags, t.pc)) =
    some ([0x1F, 0xFF], fl 0 0 0 0 0, 0x0102) := by decide
theorem test_lxi_b_1234_1 : (stepped (base) 24 0x123401).map (fun t => ([t.b, t.c], t.flags, t.pc)) =
    some ([0x12, 0x34], fl 0 0 0 0 0, 0x0103) := by decide
theorem test_lxi_sp_3000_1 : (stepped (base) 24 0x300031).map (fun t => (t.sp, t.flags, t.pc)) =
    some (0x3000, fl 0 0 0 0 0, 0x0103) := by decide
theorem test_lda_6100_1 : (stepped ({ base with mem := [(0x2100, 0xAB)] }) 24 0x61003A).map (fun t => ([t.a, t.cell 0x2100], t.flags, t.pc)) =
    some ([0xAB, 0xAB], fl 0 0 0 0 0, 0x0103) := by decide
theorem test_sta_ffff_1 : (stepped ({ base with a := 0x77 }) 24 0xFFFF32).map (fun t => ([t.a, t.cell 0x3FFF], t.flags, t.pc)) =
    some ([0x77, 0x77], fl 0 0 0 0 0, 0x0103) := by decide
theorem test_lhld_ffff_1 : (stepped ({ base with mem := [(0x0000, 0x22), (0x3FFF, 0x11)] }) 24 0xFFFF2A).map (fun t => ([t.l, t.h, t.cell 0x3FFF, t.cell 0x0000], t.flags, t.pc)) =
    some ([0x11, 0x22, 0x11, 0x22], fl 0 0 0 0 0, 0x0103) := by decide
theorem test_shld_1fff_1 : (stepped ({ base with h := 0xAE, l := 0x29 }) 24 0x1FFF22).map (fun t => ([t.h, t.l, t.cell 0x2000], t.flags, t.pc)) =
    some ([0xAE, 0x29, 0xAE], fl 0 0 0 0 0, 0x0103) := by decide
theorem test_shld_210a_1 : (stepped ({ base with h := 0xAE, l := 0x29 }) 24 0x210A22).map (fun t => ([t.h, t.l, t.cell 0x210A, t.cell 0x210B], t.flags, t.pc)) =
    some ([0xAE, 0x29, 0x29, 0xAE], fl 0 0 0 0 0, 0x0103) := by decide
theorem test_ldax_b_1 : (stepped ({ base with b := 0x01, c := 0x00 }) 8 0x0A).map (fun t => ([t.b, t.c, t.a], t.flags, t.pc)) =
    some ([0x01, 0x00, 0x0A], fl 0 0 0 0 0, 0x0101) := by decide
theorem test_stax_d_1 : (stepped ({ base with d := 0x00, e := 0x50, a := 0x42 }) 8 0x12).map (fun t => ([t.d, t.e, t.a], t.flags, t.pc)) =
    some ([0x00, 0x50, 0x42], fl 0 0 0 0 0, 0x0101) := by decide
theorem test_xchg_1 : (stepped ({ base with h := 0x00, l := 0xFF, d := 0x33, e := 0x55 }) 8 0xEB).map (fun t => ([t.h, t.l, t.d, t.e], t.flags, t.pc)) =
    some ([0x33, 0x55, 0x00, 0xFF], fl 0 0 0 0 0, 0x0101) := by decide
theorem test_push_b_1 : (stepped ({ base with sp := 0x2001, b := 0x12, c := 0x34 }) 8 0xC5).map (fun t => ([t.b, t.c, t.cell 0x2000], t.sp, t.flags, t.pc)) =
    some ([0x12, 0x34, 0x12], 0x1FFF, fl 0 0 0 0 0, 0x0101) := by decide
theorem test_push_b_2 : (stepped ({ base with sp := 0x0001, b := 0x12, c := 0x34 }) 8 0xC5).map (fun t => ([t.b, t.c, t.cell 0x3FFF], t.sp, t.flags, t.pc)) =
    some ([0x12, 0x34, 0x34], 0xFFFF, fl 0 0 0 0 0, 0x0101) := by decide
theorem test_push_psw_1 : (stepped ({ base with sp := 0x2400, a := 0x1F, flags := fl 1 0 1 1 0 }) 8 0xF5).map (fun t => ([t.a, t.cell 0x23FF, t.cell 0x23FE], t.sp, t.flags, t.pc)) =
    some ([0x1F, 0x1F, 0x47], 0x23FE, fl 1 0 1 1 0, 0x0101) := by decide
theorem test_push_psw_2 : (stepped ({ base with sp := 0x2400, a := 0xFF, flags := fl 1 1 1 1 1 }) 8 0xF5).map (fun t => ([t.a, t.cell 0x23FF, t.cell 0x23FE], t.sp, t.flags, t.pc)) =
    some ([0xFF, 0xFF, 0xD7], 0x23FE, fl 1 1 1 1 1, 0x0101) := by decide
theorem test_pop_psw_1 : (stepped ({ base with sp := 0x2400, flags := fl 1 1 1 1 1, mem := [(0x2401, 0x55)] }) 8 0xF1).map (fun t => ([t.a, t.cell 0x2400, t.cell 0x2401], t.sp, t.flags, t.pc)) =
    some ([0x55, 0x00, 0x55], 0x2402, fl 0 0 0 0 0, 0x0101) := by decide
theorem test_pop_psw_2 : (stepped ({ base with sp := 0x2C00, mem := [(0x2C00, 0xC3), (0x2C01, 0xFF)] }) 8 0xF1).map (fun t => ([t.a, t.cell 0x2C00, t.cell 0x2C01], t.sp, t.flags, t.pc)) =
    some ([0xFF, 0xC3, 0xFF], 0x2C02, fl 1 1 0 1 0, 0x0101) := by decide
theorem test_xthl_1 : (stepped ({ base with sp := 0x2400, h := 0x0B, l := 0x3C, mem := [(0x2400, 0xF0), (0x2401, 0x0D)] }) 8 0xE3).map (fun t => ([t.h, t.l, t.cell 0x2400, t.cell 0x2401], t.sp, t.flags, t.pc)) =
    some ([0x0D, 0xF0, 0x3C, 0x0B], 0x2400, fl 0 0 0 0 0, 0x0101) := by decide
theorem test_xthl_2 : (stepped ({ base with sp := 0x1000, h := 0x0B, l := 0x3C, mem := [(0x1000, 0xF0), (0x1001, 0x0D)] }) 8 0xE3).map (fun t => ([t.h, t.l, t.cell 0x1000, t.cell 0x1001], t.sp, t.flags, t.pc)) =
    some ([0x0D, 0xF0, 0xF0, 0x0D], 0x1000, fl 0 0 0 0 0, 0x0101) := by decide
theorem test_sphl_1 : (stepped ({ base with h := 0x50, l := 0x6C }) 8 0xF9).map (fun t => ([t.h, t.l], t.sp, t.flags, t.pc)) =
    some ([0x50, 0x6C], 0x506C, fl 0 0 0 0 0, 0x0101) := by decide
theorem test_pop_b_1 : (stepped ({ base with sp := 0xFFFF, mem := [(0x0000, 0x66), (0x3FFF, 0x77)] }) 8 0xC1).map (fun t => ([t.c, t.b, t.cell 0x3FFF, t.cell 0x0000], t.sp, t.flags, t.pc)) =
    some ([0x77, 0x66, 0x77, 0x66], 0x0001, fl 0 0 0 0 0, 0x0101) := by decide
theorem test_pop_h_1 : (stepped ({ base with sp := 0x2239, mem := [(0x2239, 0x3D), (0x223A, 0x93)] }) 8 0xE1).map (fun t => ([t.l, t.h, t.cell 0x2239, t.cell 0x223A], t.sp, t.flags, t.pc)) =
    some ([0x3D, 0x93, 0x3D, 0x93], 0x223B, fl 0 0 0 0 0, 0x0101) := by decide
theorem test_jmp_1234_1 : (stepped (base) 24 0x1234C3).map (fun t => (t.flags, t.pc)) =
    some (fl 0 0 0 0 0, 0x1234) := by decide
theorem test_jnz_2000_1 : (stepped ({ base with pc := 0x0010, flags := fl 0 0 0 0 0 }) 24 0x2000C2).map (fun t => (t.flags, t.pc)) =
    some (fl 0 0 0 0 0, 0x2000) := by decide
theorem test_jnz_2000_2 : (stepped ({ base with pc := 0x0010, flags := fl 1 0 0 0 0 }) 24 0x2000C2).map (fun t => (t.flags, t.pc)) =
    some (fl 1 0 0 0 0, 0x0013) := by decide
theorem test_jz_2000_1 : (stepped ({ base with pc := 0x0010, flags := fl 1 0 0 0 0 }) 24 0x2000CA).map (fun t => (t.flags, t.pc)) =
    some (fl 1 0 0 0 0, 0x2000) := by decide
theorem test_jnc_2000_1 : (stepped ({ base with pc := 0x0010, flags := fl 0 0 0 1 0 }) 24 0x2000D2).map (fun t => (t.flags, t.pc)) =
    some (fl 0 0 0 1 0, 0x0013) := by decide
theorem test_jc_2000_1 : (stepped ({ base with pc := 0x0010, flags := fl 0 0 0 1 0 }) 24 0x2000DA).map (fun t => (t.flags, t.pc)) =
    some (fl 0 0 0 1 0, 0x2000) := by decide
theorem test_jpo_2000_1 : (stepped ({ base with pc := 0x0010, flags := fl 0 0 0 0 0 }) 24 0x2000E2).map (fun t => (t.flags, t.pc)) =
    some (fl 0 0 0 0 0, 0x2000) := by decide
theorem test_jpe_2000_1 : (stepped ({ base with pc := 0x0010, flags := fl 0 0 0 0 0 }) 24 0x2000EA).map (fun t => (t.flags, t.pc)) =
    some (fl 0 0 0 0 0, 0x0013) := by decide
theorem test_jp_2000_1 : (stepped ({ base with pc := 0x0010, flags := fl 0 1 0 0 0 }) 24 0x2000F2).map (fun t => (t.flags, t.pc)) =
    some (fl 0 1 0 0 0, 0x0013) := by decide
theorem test_jm_2000_1 : (stepped ({ base with pc := 0x0010, flags := fl 0 1 0 0 0 }) 24 0x2000FA).map (fun t => (t.flags, t.pc)) =
    some (fl 0 1 0 0 0, 0x2000) := by decide
theorem test_call_1234_1 : (stepped ({ base with sp := 0x2400 }) 24 0x1234CD).map (fun t => ([t.cell 0x23FF, t.cell 0x23FE], t.sp, t.flags, t.pc)) =
    some ([0x01, 0x03], 0x23FE, fl 0 0 0 0 0, 0x1234) := by decide
theorem test_cz_3000_1 : (stepped ({ base with sp := 0x2400, pc := 0x0010, flags := fl 0 0 0 0 0 }) 24 0x3000CC).map (fun t => (t.sp, t.flags, t.pc)) =
    some (0x2400, fl 0 0 0 0 0, 0x0013) := by decide
theorem test_cz_3000_2 : (stepped ({ base with sp := 0x2400, pc := 0x0010, flags := fl 1 0 0 0 0 }) 24 0x3000CC).map (fun t => ([t.cell 0x23FF, t.cell 0x23FE], t.sp, t.flags, t.pc)) =
    some ([0x00, 0x13], 0x23FE, fl 1 0 0 0 0, 0x3000) := by decide
theorem test_cnc_3000_1 : (stepped ({ base with sp := 0x2400, pc := 0x0010, flags := fl 0 0 0 0 0 }) 24 0x3000D4).map (fun t => ([t.cell 0x23FF, t.cell 0x23FE], t.sp, t.flags, t.pc)) =
    some ([0x00, 0x13], 0x23FE, fl 0 0 0 0 0, 0x3000) := by decide
theorem test_cm_3000_1 : (stepped ({ base with sp := 0x2400, pc := 0x0010, flags := fl 0 0 0 0 0 }) 24 0x3000FC).map (fun t => (t.sp, t.flags, t.pc)) =
    some (0x2400, fl 0 0 0 0 0, 0x0013) := by decide
theorem test_ret_1 : (stepped ({ base with sp := 0x23FE, pc := 0x1234, mem := [(0x23FE, 0x03), (0x23FF, 0x01)] }) 8 0xC9).map (fun t => ([t.cell 0x23FE, t.cell 0x23FF], t.sp, t.flags, t.pc)) =
    some ([0x03, 0x01], 0x2400, fl 0 0 0 0 0, 0x0103) := by decide
theorem test_ret_2 : (stepped ({ base with sp := 0x0000, mem := [(0x0000, 0xC3), (0x0001, 0xD4)] }) 8 0xC9).map (fun t => ([t.cell 0x0000, t.cell 0x0001], t.sp, t.flags, t.pc)) =
    some ([0xC3, 0xD4], 0x0002, fl 0 0 0 0 0, 0xD4C3) := by decide
theorem test_rc_1 : (stepped ({ base with sp := 0x23FE, pc := 0x0050, flags := fl 0 0 0 1 0, mem := [(0x23FE, 0x78), (0x23FF, 0x56)] }) 8 0xD8).map (fun t => ([t.cell 0x23FE, t.cell 0x23FF], t.sp, t.flags, t.pc)) =
    some ([0x78, 0x56], 0x2400, fl 0 0 0 1 0, 0x5678) := by decide
theorem test_rc_2 : (stepped ({ base with sp := 0x23FE, pc := 0x0050, flags := fl 0 0 0 0 0, mem := [(0x23FE, 0x78), (0x23FF, 0x56)] }) 8 0xD8).map (fun t => ([t.cell 0x23FE, t.cell 0x23FF], t.sp, t.flags, t.pc)) =
    some ([0x78, 0x56], 0x23FE, fl 0 0 0 0 0, 0x0051) := by decide
theorem test_rpe_1 : (stepped ({ base with sp := 0x23FE, pc := 0x0050, flags := fl 0 0 1 0 0, mem := [(0x23FE, 0x78), (0x23FF, 0x56)] }) 8 0xE8).map (fun t => ([t.cell 0x23FE, t.cell 0x23FF], t.sp, t.flags, t.pc)) =
    some ([0x78, 0x56], 0x2400, fl 0 0 1 0 0, 0x5678) := by decide
theorem test_rp_1 : (stepped ({ base with sp := 0x23FE, pc := 0x0050, flags := fl 0 0 0 0 0, mem := [(0x23FE, 0x78), (0x23FF, 0x56)] }) 8 0xF0).map (fun t => ([t.cell 0x23FE, t.cell 0x23FF], t.sp, t.flags, t.pc)) =
    some ([0x78, 0x56], 0x2400, fl 0 0 0 0 0, 0x5678) := by decide
theorem test_rst_2_1 : (stepped ({ base with sp := 0x2400, pc := 0x0123 }) 8 0xD7).map (fun t => ([t.cell 0x23FF, t.cell 0x23FE], t.sp, t.flags, t.pc)) =
    some ([0x01, 0x24], 0x23FE, fl 0 0 0 0 0, 0x0010) := by decide
theorem test_rst_7_1 : (stepped ({ base with sp := 0x2400, pc := 0xFFFF }) 8 0xFF).map (fun t => ([t.cell 0x23FF, t.cell 0x23FE], t.sp, t.flags, t.pc)) =
    some ([0x00, 0x00], 0x23FE, fl 0 0 0 0 0, 0x0038) := by decide
theorem test_pchl_1 : (stepped ({ base with h := 0x41, l := 0x3E }) 8 0xE9).map (fun t => ([t.h, t.l], t.flags, t.pc)) =
    some ([0x41, 0x3E], fl 0 0 0 0 0, 0x413E) := by decide
theorem test_nop_1 : (stepped ({ base with a := 0x12, flags := fl 0 0 0 1 0 }) 8 0x00).map (fun t => ([t.a], t.pc)) =
    some ([0x12], 0x0101) := by decide
theorem test_hlt_1 : (stepped (base) 8 0x76).map (fun t => (t.halted, t.pc)) =
    some (true, 0x0101) := by decide
theorem test_ei_1 : (stepped ({ base with ie := false }) 8 0xFB).map (fun t => (t.ie, t.pc)) =
    some (true, 0x0101) := by decide
theorem test_di_1 : (stepped ({ base with ie := true }) 8 0xF3).map (fun t => (t.ie, t.pc)) =
    some (false, 0x0101) := by decide
theorem test_in_ff_1 : (stepped ({ base with a := 0x11, flags := fl 1 0 0 0 0, inPort := [(0xFF, 0x80)] }) 16 0xFFDB).map (fun t => ([t.a], t.pc)) =
    some ([0x80], 0x0102) := by decide
theorem test_out_ff_1 : (stepped ({ base with a := 0x01 }) 16 0xFFD3).map (fun t => ([t.a, t.readOutPort 0xFF], t.pc)) =
    some ([0x01, 0x01], 0x0102) := by decide

/-! ## Steps, outcomes and costs -/

/-- R286, R301: the three outcomes a step reports, and that the fatal one leaves the state as it was. -/
theorem test_outcomes :
    (base.withFetchWord 8 0x00).report = some .continued ∧ (base.withFetchWord 8 0x76).report = some .halted ∧
    (base.withFetchWord 8 0xCB).report = some (.fatal 0xCB 0x0100) ∧
    (base.withFetchWord 8 0xCB).afterStep = base.withFetchWord 8 0xCB := by decide

/-- The entries of the cost table that are the source's (R350), and that a step adds the entry and 1. -/
theorem test_costs :
    [0x00, 0x01, 0x76, 0xC3, 0xD3, 0xDB].map cycleCost = [4, 10, 7, 10, 10, 10] ∧
    (stepped base 16 0x053E).map (fun t => (t.cycles, t.instrs)) = some (7, 1) := by decide

/-- R311 (spec's D14): an interrupt with vector 7 pushes PC and goes to 0x0038; IE stays as it was (log entry 3). -/
theorem test_interrupt :
    let t := ({ base with ie := true } : State).raiseInterrupt 7
    (t.pc, t.sp, t.cell 0x23FF, t.cell 0x23FE, t.ie) = (0x0038, 0x23FE, 0x01, 0x00, true) := by decide

/-- R264, R265, R266: the hooks' actions, when given. -/
theorem test_hooks :
    (base.inputWith (some 0x5A) 0x01).a = 0x5A ∧ (base.inputWith none 0x01).a = 0x00 ∧
    (base.outputWith [(0x03, 0x77)] 0x04).readInPort 0x03 = 0x77 := by decide

/-! ## Witnesses: states and operands that meet the hypotheses of each statement -/

theorem test_witness_DecodeOfEncode : (Instr.mviM 0x7E).WellFormed ∧ (Instr.unassigned 0xFD).WellFormed := by decide

theorem test_witness_MirrorMap :
    (0x3FFF : Word) < 0x4000 ∧ (0x4000 : Word) ≤ 0x4000 ∧ phys 0x3FFF = 0x3FFF ∧ phys 0x4000 = 0x2000 ∧ phys 0xFFFF = 0x3FFF ∧
    (0x2000 : Word) ≤ 0x2000 ∧ (0x3FFF : Word) < 0x4000 ∧ phys 0xE000 = 0x2000 ∧ phys 0x1FFF = 0x1FFF := by decide

theorem test_witness_ByteAccesses :
    (0x1FFF : Word) < 0x2000 ∧ base.writeByte 0x1FFF 0x77 = base ∧
    (0x2000 : Word) ≤ 0x2000 ∧ (base.writeByte 0x2000 0x77).cell 0x2000 = 0x77 := by decide

theorem test_witness_WordAccesses :
    (0x2000 : Word) ≤ 0x2000 ∧ (0x2000 : Word) ≤ 0x2000 + 1 ∧ (base.writeWord 0x2000 0x1234).readWord 0x2000 = 0x1234 ∧
    (0x2000 : Word) ≤ 0xFFFE ∧ (0x2000 : Word) ≤ 0xFFFE + 1 := by decide

theorem test_witness_RomAndHiddenCellsStay :
    (∀ e ∈ [Event.step, Event.input 0x01 0x5A, Event.interrupt 7], e.isNotLoad = true) ∧
    (0x1FFF < 0x2000 ∨ 0x4000 ≤ 0x1FFF) ∧ (0x4000 < 0x2000 ∨ 0x4000 ≤ 0x4000) := by decide

theorem test_witness_HiddenCellsAreNeverRead : SameVisible base { base with mem := [(0x4000, 0x77)] } := by
  refine ⟨rfl, fun k hk => ?_⟩
  have : (0x4000 : Nat) ≠ k := by omega
  simp [State.cell, Cells.get, this, base, State.reset, State.resetWith]

theorem test_witness_StepRunsDecodedInstruction :
    let s := base.withFetchWord 16 0x053E
    s.halted = false ∧
    decodeBytes [s.readByte s.pc, s.readByte (s.pc + 1), s.readByte (s.pc + 2)] = .ok (.mviA 0x05, [0x00]) := ⟨rfl, rfl⟩

theorem test_witness_HaltedIsTerminal :
    ({ base with halted := true } : State).halted = true ∧
    (∀ e ∈ [Event.step, .interrupt 7], e.isNotLoad = true ∧ e.isNotInput = true) ∧
    (∀ e ∈ [Event.step, .interrupt 7, .input 0xFF 0x5A], e.isNotLoad = true) ∧
    (∀ e ∈ [Event.step, .interrupt 7, .load [0x5A] 0xFFFF], e.isNotInput = true) := by decide

theorem test_witness_OnlyUnassignedBytesAreFatal :
    let s := base.withFetchWord 8 0xFD
    (s.halted = false ∧ s.readByte s.pc ∈ Config.unassignedOpcodes) ∧
    ¬ (base.halted = false ∧ base.readByte base.pc ∈ Config.unassignedOpcodes) := by decide

theorem test_witness_EveryAssignedInstructionCompletes : ∀ op, Instr.hlt ≠ .unassigned op := nofun

theorem test_witness_StepKeepsInvariant : base.Inv ∧ (step base matches .next _) := by decide

theorem test_witness_RunKeepsInvariant : (base.writeByte 0xFFFF 0x77).Inv := by decide

theorem test_witness_PortBankAccess :
    (∀ p, Instr.out 0x04 ≠ .inp p) ∧ (∀ p, Instr.inp 0x04 ≠ .out p) ∧ (exec (.inp 0x04) base matches .next _) :=
  ⟨nofun, nofun, rfl⟩

theorem test_witness_FlagsKeptUnlessListed :
    (exec .nop base matches .next _) ∧ ¬ WritesZSPAC .nop ∧ ¬ WritesCY .nop := by
  have hs : ∀ x : Slot, ∀ f ∈ [Instr.add, .adc, .sub, .sbb, .ana, .xra, .ora, .cmp, .inr, .dcr], Instr.nop ≠ f x := by
    rintro ((_ | _) | _) <;> decide
  have hp : ∀ p : Pair, Instr.nop ≠ .dad p := by rintro (_ | _) <;> decide
  simp only [List.mem_cons, forall_eq_or_imp] at hs
  refine ⟨rfl, ?_, ?_⟩ <;>
    simp [WritesZSPAC, WritesCY, IsAccumulatorOp, IsCompare, IsRotate, Instr.pop, hp, hs]

theorem test_witness_RegistersKeptUnlessNamed :
    (exec .nop base matches .next _) ∧ ¬ WritesReg .nop .b ∧ ¬ WritesSP .nop := by
  have hm : ∀ x : Reg, Instr.nop ≠ .mov .b x := by rintro (_ | _) <;> decide
  have hq : ∀ p : Pair, regInPair .b p = true → p = .bc := by rintro (_ | _) <;> decide
  have hp : ∀ p : StackPair, Instr.nop ≠ .pop p ∧ Instr.nop ≠ .push p := by rintro (_ | _) <;> decide
  have hc : ∀ cond : Cond, ∀ w, Instr.nop ≠ .cccc cond w := by rintro (_ | _) w <;> exact nofun
  have hr : ∀ cond : Cond, Instr.nop ≠ .rccc cond := by rintro (_ | _) <;> decide
  have hn : ∀ n : Fin 8, Instr.nop ≠ .rst n := by decide
  refine ⟨rfl, ?_, ?_⟩
  · simp only [WritesReg, not_or]
    refine ⟨fun ⟨x, h⟩ => hm x h, nofun, nofun, nofun, nofun, ?_, fun ⟨p, _, h⟩ => (hp p).1 h, by simp, by simp, by simp⟩
    rintro ⟨p, hb, h⟩
    rw [hq p hb] at h
    simp [Instr.lxi, Instr.inx, Instr.dcx] at h
  · simp [WritesSP, Instr.lxi, Instr.inx, Instr.dcx, hp, hc, hr, hn]

theorem test_witness_ControlStateKept : (exec .nop base matches .next _) ∧ Instr.nop ≠ .ei ∧ Instr.nop ≠ .di ∧ Instr.nop ≠ .hlt := by
  decide

theorem test_witness_MemoryKeptOutsideStores :
    let s : State := { base with b := 0x20 }
    (exec .staxB s matches .next _) ∧ ∀ a : Word, StoresTo .staxB s a → 0x2000 ≤ a → 0x2001 ≠ (phys a).toNat := by
  have hr : ∀ r : Reg, Instr.staxB ≠ .movToM r := by rintro (_ | _) <;> decide
  have hp : ∀ p : StackPair, Instr.staxB ≠ .push p := by rintro (_ | _) <;> decide
  have hc : ∀ cond : Cond, ∀ w, Instr.staxB ≠ .cccc cond w := by rintro (_ | _) w <;> exact nofun
  have hn : ∀ n : Fin 8, Instr.staxB ≠ .rst n := by decide
  refine ⟨rfl, fun a h _ => ?_⟩
  have e : a = 0x2000 := by
    rcases h with ⟨h, -⟩ | h | ⟨p, h, e⟩ | ⟨w, h, -⟩ | ⟨h, -⟩ | ⟨h, -⟩
    · simp [hr, Instr.mvi, Instr.inr, Instr.dcr] at h
    · cases h
    · cases p with
      | bc => exact e.trans (by decide)
      | de => cases h
    · cases h
    · simp [hp, hc, hn] at h
    · cases h
  rw [e]; decide

theorem test_witness_PCAdvancesByLength : (exec .nop base matches .next _) ∧ ¬ TransfersControl .nop := by
  have hj : ∀ cond : Cond, ∀ w, Instr.nop ≠ .jccc cond w ∧ Instr.nop ≠ .cccc cond w := by rintro (_ | _) w <;> exact ⟨nofun, nofun⟩
  have hr : ∀ cond : Cond, Instr.nop ≠ .rccc cond := by rintro (_ | _) <;> decide
  have hn : ∀ n : Fin 8, Instr.nop ≠ .rst n := by decide
  refine ⟨rfl, ?_⟩
  simp [TransfersControl, hj, hr, hn]

theorem test_witness_DecimalAddition :
    99 < 100 ∧ ({ base with a := 0x99 } : State).a = packedDecimal 99 ∧ packedDecimal 0 = 0x00 ∧ packedDecimal 42 = 0x42 := by
  decide

theorem test_witness_PushThenPop :
    let s : State := { base with sp := 0x2002 }
    (0x2000 : Word) ≤ s.sp - 1 ∧ 0x2000 ≤ s.sp - 2 := by decide

theorem test_witness_JumpResult :
    condHolds .nz { base.flags with z := true } = false ∧ condHolds .m { base.flags with s := true } = true := by decide

theorem test_witness_CallResult :
    condHolds .c { base.flags with cy := true } = true ∧ condHolds .c { base.flags with cy := false } = false := by decide

theorem test_witness_ReturnResumesCaller :
    let s : State := { base with sp := 0x2002, ie := true }
    (0x2000 : Word) ≤ s.sp - 1 ∧ 0x2000 ≤ s.sp - 2 ∧ s.halted = false ∧ s.ie = true := by decide

theorem test_witness_EnableAndHalt : base.halted = false := rfl

theorem test_witness_InterruptDelivery :
    (({ base with halted := true } : State).halted = true ∨ base.ie = false) ∧
    (base.halted = false ∧ ({ base with ie := true } : State).ie = true) := by decide

theorem test_witness_LoadIsAllOrNothing :
    base.load [0x11, 0x22] 0xFFFF = none ∧ (base.load [0x11] 0xFFFF).map (fun t => t.cell 0xFFFF) = some 0x11 ∧
    (base.load [0x11, 0x00, 0x33] 0x1FFF).map (fun t => (t.cell 0x1FFF, t.cell 0x2000, t.cell 0x2001)) =
      some (0x11, 0x00, 0x33) := by decide

theorem test_witness_CycleCosts : (0xE3 : Byte) ∉ Config.unassignedOpcodes ∧ cycleCost 0xE3 = 18 := by decide

theorem test_witness_UnassignedByteStops :
    (Instr.unassigned 0x08).WellFormed ∧ (Instr.unassigned 0xFD).WellFormed ∧ ¬ (Instr.unassigned 0x09).WellFormed ∧
    (step (base.withFetchWord 8 0x08) matches .fault _) := by decide

/-- R287: the three ends of a run, and that what follows the end is not part of it. -/
theorem test_run_ends :
    (base.withFetchWord 8 0x76).runToEnd [.input 0x01 0x5A, .step, .step] =
      (.halted, { ((base.withFetchWord 8 0x76).writeInPort 0x01 0x5A) with
        pc := 0x0101, halted := true, cycles := 7, instrs := 1 }) ∧
    (base.withFetchWord 8 0xCB).runToEnd [.step, .input 0x01 0x5A] = (.fatal 0xCB 0x0100, base.withFetchWord 8 0xCB) ∧
    base.runToEnd [.step] = (.cut, { base with pc := 0x0101, cycles := 4, instrs := 1 }) := by decide

/-- A halted, a fatal and a cut run, each with the split of its events that the statement speaks of. -/
theorem test_witness_ReportedOutcome :
    ([.input 0x01 0x5A, .step, .step] : List Event) = [.input 0x01 0x5A] ++ .step :: [.step] ∧
    ((base.withFetchWord 8 0x76).run [.input 0x01 0x5A]).report = some .halted ∧
    ((base.withFetchWord 8 0x76).run [.input 0x01 0x5A]).halted = false ∧
    (base.withFetchWord 8 0xCB).report = some (.fatal 0xCB 0x0100) ∧ (base.run []).report = some .continued := by decide

end Sys2Proof.Tests
end

section
/-!
The flag byte (R22): what each bit of it holds, and its extremes, which follow from the bit that is never clear and the
bits that are never set.
-/
namespace Sys2Proof.Machine

/-- A bit as a byte has that bit at 0 and no other bit set (R6). -/
@[simp] theorem getElem_bitByte (b : Bool) {i : Nat} (hi : i < 8) : (bitByte b)[i] = (b && decide (i = 0)) := by
  cases b <;> simp [bitByte]

/-- Bit `i` of the flag byte: each flag, and the fixed 1, at its own position (R22). -/
@[simp] theorem Flags.getElem_toByte (f : Flags) {i : Nat} (hi : i < 8) :
    f.toByte[i] =
      ((f.s && decide (i = 7)) || (f.z && decide (i = 6)) || (f.ac && decide (i = 4)) || (f.p && decide (i = 2)) ||
        decide (i = 1) || (f.cy && decide (i = 0))) := by
  interval_cases i <;> simp [Flags.toByte]

/-- The fixed bit 1 is already set in the flag byte (R22). -/
theorem Flags.fixed_or_toByte (f : Flags) : 0x02 ||| f.toByte = f.toByte := by
  ext i hi
  interval_cases i <;> simp

/-- Bits 5 and 3 of the flag byte are already clear: masking them off changes nothing (R22). -/
theorem Flags.toByte_and_mask (f : Flags) : f.toByte &&& 0xD7 = f.toByte := by
  ext i hi
  interval_cases i <;> simp

/-- The flag byte is at least its fixed bit, the value with all five flags clear. -/
theorem Flags.le_toByte (f : Flags) : 0x02 ≤ f.toByte := by
  rw [← f.fixed_or_toByte, BitVec.le_def, BitVec.toNat_or]
  exact Nat.left_le_or

/-- The flag byte is at most its mask, the value with all five flags set. -/
theorem Flags.toByte_le (f : Flags) : f.toByte ≤ 0xD7 := by
  rw [← f.toByte_and_mask, BitVec.le_def, BitVec.toNat_and]
  exact Nat.and_le_right

/-- Settles O27: the bits one by one from `Flags.getElem_toByte`, the extremes from the fixed bits. -/
theorem flagByteLayout : Obligations.FlagByteLayout := by
  intro f
  refine ⟨?s, ?z, ?bit5, ?ac, ?bit3, ?p, ?bit1, ?cy, f.le_toByte, f.toByte_le⟩ <;> simp

end Sys2Proof.Machine
end

section
/-!
Parity (R102): counting one more element flips or keeps the evenness of a count, so evenness is an exclusive or; `parity`
is the case of the eight bits of a byte.
-/
namespace Sys2Proof.Machine

/-- A count is even exactly when the exclusive or of `true` and the counted predicate over the list is true. -/
theorem countP_even_eq_foldr_xor {α : Type} (p : α → Bool) (l : List α) :
    (l.countP p % 2 == 0) = l.foldr (fun a even => p a ^^ even) true := by
  induction l with
  | nil => rfl
  | cons a l ih =>
    rw [List.foldr_cons, ← ih, List.countP_cons]
    cases p a with
    | false => simp
    | true =>
      rcases Nat.mod_two_eq_zero_or_one (l.countP p) with h | h <;> simp [Nat.add_mod, h]

/-- Parity as the complement of the exclusive or of the bits of the byte. -/
theorem parity_eq_foldr_xor (v : Byte) :
    parity v = (List.range 8).foldr (fun i even => v.getLsbD i ^^ even) true :=
  countP_even_eq_foldr_xor _ _

/-- Parity is true exactly when the bits that are 1, listed, are even in number. -/
theorem parity_eq_true_iff (v : Byte) :
    parity v = true ↔ ((List.range 8).filter fun i => v.getLsbD i).length % 2 = 0 := by
  rw [parity, List.countP_eq_length_filter, beq_iff_eq]

/-- Settles O26: the fold of `parity_eq_foldr_xor` written out bit by bit, and `parity_eq_true_iff`. -/
theorem parityIsEven : Obligations.ParityIsEven := by
  intro v
  refine ⟨?complementOfXor, parity_eq_true_iff v⟩
  rw [parity_eq_foldr_xor]
  simp only [List.range, List.range.loop, List.foldr_cons, List.foldr_nil, Bool.xor_comm, Bool.xor_left_comm]

end Sys2Proof.Machine
end

section
/-!
Increment (R130): the slot write of `incSlot` made on the state with its flags and PC already moved on, so that the laws
of the slot write give the result; R81's pattern for the encoding.
-/
namespace Sys2Proof.Machine

/-- The opcode byte of `INR` is `00ddd100` with the slot code as `ddd` (R81). -/
@[simp] theorem encode_inr (x : Slot) : encode (.inr x) = [0x04 + 8 * x.code] := by
  cases x with
  | reg r => cases r <;> rfl
  | m => rfl

/-- The state in which `INR` writes its slot: Z, S, P of the result `v + 1`, AC of the carry out of its low nibble, the
old CY, and PC past the instruction (R130). -/
def State.flagIncrement (s : State) (v : Byte) : State :=
  { s with pc := s.pc + 1, flags := flagsOf (v + 1) s.flags.cy (decide (v.toNat % 16 = 15)) }

/-- An increment is a slot write of the old byte plus 1: neither flags nor PC bear on where it goes (R130). -/
theorem State.incSlot_eq (s : State) (i : Slot) :
    s.incSlot i = (s.flagIncrement (s.readSlot i)).writeSlot i (s.readSlot i + 1) := by
  simp only [State.incSlot, inc8_eq]
  cases i with
  | reg r => cases r <;> rfl
  | m => simp only [State.writeSlot, State.writeByte_eq]; rfl

@[simp] theorem State.readReg_flagIncrement (s : State) (v : Byte) (q : Reg) :
    (s.flagIncrement v).readReg q = s.readReg q := by
  cases q <;> rfl

/-- What `INR r` leaves in the registers: only `r` changes (R130). -/
theorem State.readReg_incSlot_reg (s : State) (r q : Reg) :
    (s.incSlot (.reg r)).readReg q = if q = r then s.readReg r + 1 else s.readReg q := by
  simp only [State.incSlot_eq, State.readReg_writeSlot, State.readReg_flagIncrement, State.readSlot,
    Slot.reg.injEq, eq_comm]

/-- `INR r` changes no part of the state but registers, flags and PC (R130). -/
theorem State.sameButRegsAndPC_incSlot_reg (s : State) (r : Reg) :
    SameButRegsAndPC s { s.incSlot (.reg r) with flags := s.flags } := by
  cases r <;> rfl

/-- `INR M` changes memory, the flags and PC, and nothing else; the flags do not ask the write window (R130). -/
theorem State.agrees_incSlot_m (s : State) :
    AgreesOffMemory (s.incSlot .m) (s.flagIncrement (s.readByte s.hl)) := by
  rw [State.incSlot_eq]
  exact State.agrees_writeByte ..

/-- `INR M` stores the byte at H:L plus 1 there, through the write window (R130, R48). -/
theorem State.byteStored_incSlot_m (s : State) : ByteStored s (s.incSlot .m) s.hl (s.readByte s.hl + 1) := by
  intro k
  rw [State.incSlot_eq]
  exact State.cell_writeByte ..

/-- Settles O38: an increment is a slot write (`State.incSlot_eq`); a register slot by the register laws, the slot M by
the laws of the byte store. -/
theorem incrementResult : Obligations.IncrementResult := by
  intro s flags
  refine ⟨fun r => ⟨encode_inr (.reg r), _, exec_inr (.reg r) s, ?pc, ?flags, s.readReg_incSlot_reg r,
      s.sameButRegsAndPC_incSlot_reg r⟩,
    encode_inr .m, _, exec_inr .m s, s.agrees_incSlot_m, s.byteStored_incSlot_m⟩
  case pc => rw [State.incSlot_eq, State.writeSlot_pc]; rfl
  case flags => rw [State.incSlot_eq, State.writeSlot_flags]; rfl

end Sys2Proof.Machine
end

section
/-!
Accumulator loads and stores (R186, R187, R190, R191): one load and one store law over the address, which the direct and
the pair-indirect forms share; R81's patterns for the encodings.
-/
namespace Sys2Proof.Machine

/-- The opcode byte of `LDAX` is `000p1010` with the pair code as `p` (R81). -/
@[simp] theorem encode_ldax (p : BasePair) : encode (.ldax p) = [0x0A + 16 * p.code] := by
  cases p <;> rfl

/-- The opcode byte of `STAX` is `000p0010` with the pair code as `p` (R81). -/
@[simp] theorem encode_stax (p : BasePair) : encode (.stax p) = [0x02 + 16 * p.code] := by
  cases p <;> rfl

/-- A 16-bit operand given by its halves is encoded low byte first (R45, R71). -/
@[simp] theorem withWord_joinBytes (op hi lo : Byte) : withWord op (joinBytes hi lo) = [op, lo, hi] := by
  rw [withWord, lowByte_joinBytes, highByte_joinBytes]

/-- Moving PC by the same length keeps two states equal but for memory. -/
theorem AgreesOffMemory.advance {t u : State} (h : AgreesOffMemory t u) (len : Word) :
    AgreesOffMemory (t.advance len) (u.advance len) :=
  congrArg (fun v : State => v.advance len) h

/-- An accumulator store changes memory and PC, and nothing else (R187, R191). -/
theorem State.agrees_storeAcc (s : State) (addr len : Word) :
    AgreesOffMemory (s.storeAcc addr len) { s with pc := s.pc + len } :=
  (s.agrees_writeByte addr s.a).advance len

/-- An accumulator store puts A at the address, through the write window (R187, R191, R48). -/
theorem State.byteStored_storeAcc (s : State) (addr len : Word) : ByteStored s (s.storeAcc addr len) addr s.a :=
  s.cell_writeByte addr s.a

/-- Settles O32: the direct and the indirect forms are `State.loadAcc` and `State.storeAcc` at their address, so the laws
of the store serve both; the address that the statement writes out for a pair is `State.readBase`. -/
theorem accumulatorLoadsAndStores : Obligations.AccumulatorLoadsAndStores := by
  intro s
  refine ⟨fun lo hi => ⟨withWord_joinBytes 0x3A hi lo, withWord_joinBytes 0x32 hi lo⟩,
    fun w => ⟨exec_lda w s, _, exec_sta w s, s.agrees_storeAcc w 3, s.byteStored_storeAcc w 3⟩, ?indirect⟩
  case indirect =>
    intro p base
    have hbase : base = s.readBase p := by cases p <;> rfl
    rw [hbase]
    exact ⟨encode_ldax p, encode_stax p, exec_ldax p s, _, exec_stax p s, s.agrees_storeAcc _ 1, s.byteStored_storeAcc _ 1⟩

end Sys2Proof.Machine
end

section
/-!
The encoder by generic form: R81's pattern for each form of the opcode table, its field codes added in. `INR`, `LDAX` and
`STAX` have theirs above; the forms without a field are equations of `encode` itself.
-/
namespace Sys2Proof.Machine

@[simp] theorem encode_mov (dst src : Reg) : encode (.mov dst src) = [0x40 + 8 * dst.code + src.code] := by
  cases dst <;> cases src <;> rfl

@[simp] theorem encode_movFromM (r : Reg) : encode (.movFromM r) = [0x46 + 8 * r.code] := by cases r <;> rfl

@[simp] theorem encode_movToM (r : Reg) : encode (.movToM r) = [0x70 + r.code] := by cases r <;> rfl

@[simp] theorem encode_mvi (x : Slot) (v : Byte) : encode (.mvi x v) = [0x06 + 8 * x.code, v] := by
  rcases x with (_ | _ | _ | _ | _ | _ | _) | _ <;> rfl

@[simp] theorem encode_lxi (p : Pair) (w : Word) : encode (.lxi p w) = withWord (0x01 + 16 * p.code) w := by
  cases p <;> rfl

@[simp] theorem encode_add (x : Slot) : encode (.add x) = [0x80 + x.code] := by
  rcases x with (_ | _ | _ | _ | _ | _ | _) | _ <;> rfl

@[simp] theorem encode_adc (x : Slot) : encode (.adc x) = [0x88 + x.code] := by
  rcases x with (_ | _ | _ | _ | _ | _ | _) | _ <;> rfl

@[simp] theorem encode_sub (x : Slot) : encode (.sub x) = [0x90 + x.code] := by
  rcases x with (_ | _ | _ | _ | _ | _ | _) | _ <;> rfl

@[simp] theorem encode_sbb (x : Slot) : encode (.sbb x) = [0x98 + x.code] := by
  rcases x with (_ | _ | _ | _ | _ | _ | _) | _ <;> rfl

@[simp] theorem encode_ana (x : Slot) : encode (.ana x) = [0xA0 + x.code] := by
  rcases x with (_ | _ | _ | _ | _ | _ | _) | _ <;> rfl

@[simp] theorem encode_xra (x : Slot) : encode (.xra x) = [0xA8 + x.code] := by
  rcases x with (_ | _ | _ | _ | _ | _ | _) | _ <;> rfl

@[simp] theorem encode_ora (x : Slot) : encode (.ora x) = [0xB0 + x.code] := by
  rcases x with (_ | _ | _ | _ | _ | _ | _) | _ <;> rfl

@[simp] theorem encode_cmp (x : Slot) : encode (.cmp x) = [0xB8 + x.code] := by
  rcases x with (_ | _ | _ | _ | _ | _ | _) | _ <;> rfl

@[simp] theorem encode_dcr (x : Slot) : encode (.dcr x) = [0x05 + 8 * x.code] := by
  rcases x with (_ | _ | _ | _ | _ | _ | _) | _ <;> rfl

@[simp] theorem encode_inx (p : Pair) : encode (.inx p) = [0x03 + 16 * p.code] := by cases p <;> rfl

@[simp] theorem encode_dcx (p : Pair) : encode (.dcx p) = [0x0B + 16 * p.code] := by cases p <;> rfl

@[simp] theorem encode_dad (p : Pair) : encode (.dad p) = [0x09 + 16 * p.code] := by cases p <;> rfl

@[simp] theorem encode_push (p : StackPair) : encode (.push p) = [0xC5 + 16 * p.code] := by cases p <;> rfl

@[simp] theorem encode_pop (p : StackPair) : encode (.pop p) = [0xC1 + 16 * p.code] := by cases p <;> rfl

@[simp] theorem encode_jccc (cond : Cond) (w : Word) : encode (.jccc cond w) = withWord (0xC2 + 8 * cond.code) w := by
  cases cond <;> rfl

@[simp] theorem encode_cccc (cond : Cond) (w : Word) : encode (.cccc cond w) = withWord (0xC4 + 8 * cond.code) w := by
  cases cond <;> rfl

@[simp] theorem encode_rccc (cond : Cond) : encode (.rccc cond) = [0xC0 + 8 * cond.code] := by cases cond <;> rfl

@[simp] theorem encode_rst (n : Fin 8) : encode (.rst n) = [0xC7 + 8 * BitVec.ofNat 8 n.val] := by
  fin_cases n <;> rfl

end Sys2Proof.Machine
end

section
/-!
The decoder against the encoder (R70 to R83). `EncodedAs` says how bytes stand for an instruction by the format of their
opcode byte's entry in the map of R80. Every well-formed instruction's encoding is of that kind, and the decoder undoes
whatever is; the other way round, each of the 256 entries is encoded as its own opcode byte and operands.
-/
namespace Sys2Proof.Machine

/-- The bytes stand for the instruction: an opcode byte and the operand bytes its entry of the map calls for (R71). -/
inductive EncodedAs : Instr → List Byte → Prop
  | f1 {op : Byte} {i : Instr} (entry : entryOf op = .f1 i) : EncodedAs i [op]
  | f2 {op : Byte} {k : Byte → Instr} (entry : entryOf op = .f2 k) (v : Byte) : EncodedAs (k v) [op, v]
  | f3 {op : Byte} {k : Word → Instr} (entry : entryOf op = .f3 k) (w : Word) : EncodedAs (k w) (withWord op w)

/-- The decoder reads off bytes what they stand for, and leaves the bytes after them (R70, R74). -/
theorem EncodedAs.decodeBytes_append {i : Instr} {bytes : List Byte} (h : EncodedAs i bytes) (rest : List Byte) :
    decodeBytes (bytes ++ rest) = .ok (i, rest) := by
  cases h with
  | f1 entry => simp [decodeBytes, entry]
  | f2 entry v => simp [decodeBytes, entry]
  | f3 entry w => simp [decodeBytes, entry, withWord]

/-- R83's twelve bytes have an unassigned entry of their own in the map. -/
theorem entryOf_unassigned {op : Byte} (h : op ∈ Config.unassignedOpcodes) : entryOf op = .f1 (.unassigned op) := by
  simp only [Config.unassignedOpcodes, List.mem_cons, List.not_mem_nil, or_false] at h
  rcases h with rfl | rfl | rfl | rfl | rfl | rfl | rfl | rfl | rfl | rfl | rfl | rfl <;> rfl

/-- An unassigned term is well-formed exactly for R83's twelve bytes. -/
theorem wellFormed_unassigned {op : Byte} : (Instr.unassigned op).WellFormed ↔ op ∈ Config.unassignedOpcodes := by
  simp [Instr.WellFormed, Instr.illFormed]

/-- The encoding of a well-formed instruction stands for it: R81's patterns hit R80's grid. -/
theorem encodedAs_encode (i : Instr) (wf : i.WellFormed) : EncodedAs i (encode i) := by
  induction i using Instr.byForm with
  | unassigned op => exact .f1 (entryOf_unassigned (wellFormed_unassigned.1 wf))
  | nop | xchg | daa | cma | stc | cmc | rlc | rrc | ral | rar | xthl | sphl | ret | pchl | hlt | ei | di =>
    exact .f1 rfl
  | mov dst src => cases dst <;> cases src <;> exact .f1 rfl
  | movFromM r | movToM r => cases r <;> exact .f1 rfl
  | add x | adc x | sub x | sbb x | cmp x | inr x | dcr x | ana x | xra x | ora x =>
    rcases x with (_ | _ | _ | _ | _ | _ | _) | _ <;> exact .f1 rfl
  | ldax p | stax p | inx p | dcx p | dad p | push p | pop p => cases p <;> exact .f1 rfl
  | rccc cond => cases cond <;> exact .f1 rfl
  | rst n => fin_cases n <;> exact .f1 rfl
  | mvi x v => rcases x with (_ | _ | _ | _ | _ | _ | _) | _ <;> exact .f2 rfl v
  | adi v | aci v | sui v | sbi v | cpi v | ani v | xri v | ori v | inp v | out v => exact .f2 rfl v
  | lxi p w => cases p <;> exact .f3 rfl w
  | lda w | sta w | lhld w | shld w | jmp w | call w => exact .f3 rfl w
  | jccc cond w | cccc cond w => cases cond <;> exact .f3 rfl w

/-- Settles O1: what the encoder gives stands for the instruction, and the decoder undoes that. -/
theorem decodeOfEncode : Obligations.DecodeOfEncode :=
  fun i rest wf => (encodedAs_encode i wf).decodeBytes_append rest

/-- The entry's instructions are well-formed, and encoded as the opcode byte and the operands of the entry's format, as
many as R72's list gives the byte. -/
def EncodesUnder (op : Byte) : Entry → Prop
  | .f1 i => instrLength op = 1 ∧ encode i = [op] ∧ i.WellFormed
  | .f2 k => instrLength op = 2 ∧ ∀ v, encode (k v) = [op, v] ∧ (k v).WellFormed
  | .f3 k => instrLength op = 3 ∧ ∀ w, encode (k w) = withWord op w ∧ (k w).WellFormed

/-- Every entry of a piece of the map that starts at byte `n` is encoded under its own byte. -/
def MapEncodes : Nat → List Entry → Prop
  | _, [] => True
  | n, e :: es => EncodesUnder (BitVec.ofNat 8 n) e ∧ MapEncodes (n + 1) es

theorem MapEncodes.get {n : Nat} {es : List Entry} (h : MapEncodes n es) {k : Nat} (hk : k < es.length) :
    EncodesUnder (BitVec.ofNat 8 (n + k)) es[k] := by
  induction es generalizing n k with
  | nil => exact absurd hk (Nat.not_lt_zero k)
  | cons e es ih =>
    cases k with
    | zero => exact h.1
    | succ k => simpa [Nat.add_assoc, Nat.add_comm 1] using ih h.2 (Nat.lt_of_succ_lt_succ hk)

/-- The whole map, entry by entry: each of its 256 entries is encoded under its own byte. The alternatives are the end of
the map, the three formats, and going on to the next entry. -/
theorem mapEncodes_opcodeMap : MapEncodes 0 opcodeMap := by
  repeat' first
    | exact trivial
    | exact ⟨rfl, rfl, rfl⟩
    | exact ⟨rfl, fun _ => ⟨rfl, rfl⟩⟩
    | refine ⟨?_, ?_⟩

theorem length_opcodeMap : opcodeMap.length = 256 := by
  simp only [opcodeMap, List.length_append]; rfl

/-- Each byte's entry is encoded under that byte (R80, R81). -/
theorem entryOf_encodesUnder (op : Byte) : EncodesUnder op (entryOf op) := by
  have hlen : op.toNat < opcodeMap.length := length_opcodeMap ▸ op.isLt
  have hop : BitVec.ofNat 8 (0 + op.toNat) = op := by simp
  have h := mapEncodes_opcodeMap.get hlen
  rw [hop] at h
  rw [entryOf, List.getD_eq_getElem _ _ hlen]
  exact h

/-- What the decoder gives is well-formed and is encoded as the opcode byte and the operand bytes its length calls for. -/
theorem encode_decode (op b1 b2 : Byte) :
    encode (decode op b1 b2) = [op, b1, b2].take (instrLength op) ∧ (decode op b1 b2).WellFormed := by
  have h := entryOf_encodesUnder op
  unfold decode
  cases hentry : entryOf op with
  | f1 i =>
    obtain ⟨hlen, henc, hwf⟩ := hentry ▸ h
    rw [hlen]
    exact ⟨henc, hwf⟩
  | f2 k =>
    obtain ⟨hlen, hk⟩ := hentry ▸ h
    rw [hlen]
    exact hk b1
  | f3 k =>
    obtain ⟨hlen, hk⟩ := hentry ▸ h
    obtain ⟨henc, hwf⟩ := hk (joinBytes b2 b1)
    rw [hlen]
    exact ⟨henc.trans (withWord_joinBytes op b2 b1), hwf⟩

/-- Settles O2: by the format of the opcode byte's entry, whose encoding is the opcode byte and the entry's operands. -/
theorem encodeOfDecode : Obligations.EncodeOfDecode :=
  fun op b1 b2 => (encode_decode op b1 b2).1

/-- The decoder gives an unassigned term for R83's twelve bytes alone, and for each its own. -/
theorem decode_eq_unassigned_iff {op b1 b2 byte : Byte} :
    decode op b1 b2 = .unassigned byte ↔ byte = op ∧ op ∈ Config.unassignedOpcodes := by
  constructor
  · intro h
    obtain ⟨henc, hwf⟩ := encode_decode op b1 b2
    rw [h] at henc hwf
    have hop : byte = op := by
      cases hlen : instrLength op with
      | zero => simp [hlen, encode] at henc
      | succ n => rw [hlen, encode, List.take_succ_cons] at henc; exact (List.cons.inj henc).1
    exact ⟨hop, hop ▸ wellFormed_unassigned.1 hwf⟩
  · rintro ⟨rfl, hmem⟩
    rw [decode, entryOf_unassigned hmem, Entry.build]

/-- Settles O3: each word's entry of the map, with its operand bytes put in. -/
theorem knownWordsDecode : Obligations.KnownWordsDecode :=
  ⟨rfl, rfl, rfl, rfl, rfl, rfl, rfl, rfl, rfl, rfl, rfl, rfl⟩

/-- Decoding a list of three bytes, which is never too short, gives what decoding the bytes gives. -/
theorem decode_of_decodeBytes {op b1 b2 : Byte} {i : Instr} {rest : List Byte}
    (h : decodeBytes [op, b1, b2] = .ok (i, rest)) : decode op b1 b2 = i := by
  rw [decode]
  cases hentry : entryOf op <;> simp [decodeBytes, hentry] at h <;> exact h.1

end Sys2Proof.Machine
end

section
/-!
A slot write that comes with new flags and PC (`INR`, `DCR`, `MVI`): made on the state with those already in place, so that
the laws of the slot write give its result.
-/
namespace Sys2Proof.Machine

/-- The state in which `DCR` writes its slot: Z, S, P of the result `v - 1`, AC clear on a borrow from its low nibble, the
old CY, and PC past the instruction (R131). -/
def State.flagDecrement (s : State) (v : Byte) : State :=
  { s with pc := s.pc + 1, flags := flagsOf (v - 1) s.flags.cy (decide (v.toNat % 16 ≠ 0)) }

/-- A slot write and a move of PC can be made in either order. -/
theorem State.writeSlot_advance (s : State) (x : Slot) (v : Byte) (len : Word) :
    (s.writeSlot x v).advance len = (s.advance len).writeSlot x v := by
  cases x with
  | reg r => cases r <;> rfl
  | m => simp only [State.writeSlot, State.writeByte_eq]; rfl

/-- A decrement is a slot write of the old byte minus 1: neither flags nor PC bear on where it goes (R131). -/
theorem State.decSlot_eq (s : State) (x : Slot) :
    s.decSlot x = (s.flagDecrement (s.readSlot x)).writeSlot x (s.readSlot x - 1) := by
  simp only [State.decSlot, dec8_eq, State.writeSlot_advance]; rfl

end Sys2Proof.Machine
end

section
/-!
What an instruction does, split in two: the core it leaves (registers, PC, SP, flags, IE, HALTED) and what it asks of the
surroundings (byte stores, output port writes). Both depend on the surroundings only through the bytes a program address
can read, and for `IN` the input ports: said once, over the generic forms, in `exec_hasEffect`.
-/
namespace Sys2Proof.Machine

/-- Memory after byte stores at program addresses, in order. -/
def Memory.storeAll (m : Memory) (stores : List (Word × Byte)) : Memory :=
  stores.foldl (fun m st => m.store st.1 st.2) m

/-- A port bank after writes of its entries, in order. -/
def Ports.writeAll (ports : Ports) (writes : List (Byte × Byte)) : Ports :=
  writes.foldl (fun ports pv => Cells.set ports pv.1.toNat pv.2) ports

/-- The state around the core: memory, the port banks and the counters. -/
structure Surroundings where
  mem : Memory
  inPort : Ports
  outPort : Ports
  cycles : Count
  instrs : Count

/-- The surroundings in a state. -/
def State.surroundings (s : State) : Surroundings := ⟨s.mem, s.inPort, s.outPort, s.cycles, s.instrs⟩

/-- The state with other surroundings. -/
def State.within (s : State) (w : Surroundings) : State :=
  { s with mem := w.mem, inPort := w.inPort, outPort := w.outPort, cycles := w.cycles, instrs := w.instrs }

@[simp] theorem State.within_surroundings (s : State) : s.within s.surroundings = s := rfl

/-- The surroundings after stores and output port writes. -/
def Surroundings.put (w : Surroundings) (stores : List (Word × Byte)) (writes : List (Byte × Byte)) : Surroundings :=
  { w with mem := w.mem.storeAll stores, outPort := w.outPort.writeAll writes }

/-- Other surroundings of `s` that hold the same bytes at every program address. -/
def SameReads (s : State) (w : Surroundings) : Prop := ∀ a, (s.within w).readByte a = s.readByte a

theorem SameReads.refl (s : State) : SameReads s s.surroundings := fun _ => rfl

theorem SameReads.readWord {s : State} {w : Surroundings} (h : SameReads s w) (a : Word) :
    (s.within w).readWord a = s.readWord a := by
  rw [State.readWord, h, h]; rfl

theorem State.readReg_within (s : State) (w : Surroundings) (r : Reg) : (s.within w).readReg r = s.readReg r := by
  cases r <;> rfl

theorem SameReads.readSlot {s : State} {w : Surroundings} (h : SameReads s w) (x : Slot) :
    (s.within w).readSlot x = s.readSlot x := by
  cases x with
  | reg r => exact s.readReg_within w r
  | m => exact h _

theorem State.writeReg_within (s : State) (w : Surroundings) (r : Reg) (v : Byte) :
    (s.within w).writeReg r v = (s.writeReg r v).within w := by
  cases r <;> rfl

theorem State.readPair_within (s : State) (w : Surroundings) (p : Pair) : (s.within w).readPair p = s.readPair p := by
  cases p <;> rfl

theorem State.writePair_within (s : State) (w : Surroundings) (p : Pair) (v : Word) :
    (s.within w).writePair p v = (s.writePair p v).within w := by
  cases p <;> rfl

theorem State.readBase_within (s : State) (w : Surroundings) (p : BasePair) : (s.within w).readBase p = s.readBase p := by
  cases p <;> rfl

theorem State.readStackPair_within (s : State) (w : Surroundings) (p : StackPair) :
    (s.within w).readStackPair p = s.readStackPair p := by
  cases p <;> rfl

theorem State.writeByte_within (s : State) (w : Surroundings) (a : Word) (v : Byte) :
    (s.within w).writeByte a v = s.within (w.put [(a, v)] []) := by
  rw [State.writeByte_eq]; rfl

theorem State.writeWord_within (s : State) (w : Surroundings) (a v : Word) :
    (s.within w).writeWord a v = s.within (w.put [(a, lowByte v), (a + 1, highByte v)] []) := by
  rw [State.writeWord_eq]; rfl

theorem State.push16_within (s : State) (w : Surroundings) (v : Word) :
    (s.within w).push16 v =
      ({ s with sp := s.sp - 2 } : State).within (w.put [(s.sp - 1, highByte v), (s.sp - 2, lowByte v)] []) := by
  rw [State.push16_eq]; rfl

theorem State.callTo_within (s : State) (w : Surroundings) (ret target : Word) :
    (s.within w).callTo ret target =
      ({ s with sp := s.sp - 2, pc := target } : State).within
        (w.put [(s.sp - 1, highByte ret), (s.sp - 2, lowByte ret)] []) := by
  rw [State.callTo, State.push16_within]; rfl

theorem State.writeSlot_reg_within (s : State) (w : Surroundings) (r : Reg) (v : Byte) :
    (s.within w).writeSlot (.reg r) v = (s.writeSlot (.reg r) v).within w :=
  s.writeReg_within w r v

theorem State.writeSlot_m_within (s : State) (w : Surroundings) (v : Byte) :
    (s.within w).writeSlot .m v = s.within (w.put [(s.hl, v)] []) :=
  s.writeByte_within w s.hl v

theorem State.returnFrom_within {s : State} {w : Surroundings} (hw : SameReads s w) :
    (s.within w).returnFrom = s.returnFrom.within w :=
  congrArg (fun target => (({ s with sp := s.sp + 2, pc := target } : State).within w)) (hw.readWord s.sp)

theorem State.popPair_within {s : State} {w : Surroundings} (hw : SameReads s w) (p : StackPair) :
    (s.within w).popPair p = (s.popPair p).within w := by
  have hword : (s.within w).readWord (s.within w).sp = s.readWord s.sp := hw.readWord s.sp
  rw [State.popPair, State.pop16_eq, hword]
  cases p <;> rfl

theorem State.exchangeTop_within {s : State} {w : Surroundings} (hw : SameReads s w) :
    (s.within w).exchangeTop =
      ((s.setHL (s.readWord s.sp)).advance 1).within (w.put [(s.sp, lowByte s.hl), (s.sp + 1, highByte s.hl)] []) := by
  have hword : (s.within w).readWord (s.within w).sp = s.readWord s.sp := hw.readWord s.sp
  rw [State.exchangeTop, hword, State.writeWord_eq]
  rfl

theorem State.inputWith_within {s : State} {w : Surroundings} (h : w.inPort = s.inPort) (p : Byte) :
    (s.within w).inputWith none p = (s.inputWith none p).within w := by
  have hport : (s.within w).readInPort p = s.readInPort p := congrArg (Cells.get · p.toNat) h
  simp only [State.inputWith, hport]; rfl

/-! The places an instruction stores to (R51), by what it stores -/

theorem storesTo_hl {i : Instr} {s : State}
    (h : (∃ r, i = .movToM r) ∨ (∃ v, i = .mvi .m v) ∨ i = .inr .m ∨ i = .dcr .m) : StoresTo i s s.hl :=
  .inl ⟨h, rfl⟩

theorem storesTo_sta (s : State) (a : Word) : StoresTo (.sta a) s a := .inr (.inl rfl)

theorem storesTo_stax (s : State) (p : BasePair) : StoresTo (.stax p) s (s.readBase p) :=
  .inr (.inr (.inl ⟨p, rfl, rfl⟩))

theorem storesTo_shld (s : State) {w a : Word} (h : a = w ∨ a = w + 1) : StoresTo (.shld w) s a :=
  .inr (.inr (.inr (.inl ⟨w, rfl, h⟩)))

theorem storesTo_stack {i : Instr} {s : State} {a : Word}
    (hi : (∃ p, i = .push p) ∨ (∃ w, i = .call w) ∨ (∃ cond w, i = .cccc cond w ∧ condHolds cond s.flags = true) ∨
      ∃ n, i = .rst n)
    (ha : a = s.sp - 1 ∨ a = s.sp - 2) : StoresTo i s a :=
  .inr (.inr (.inr (.inr (.inl ⟨hi, ha⟩))))

theorem storesTo_xthl {s : State} {a : Word} (h : a = s.sp ∨ a = s.sp + 1) : StoresTo .xthl s a :=
  .inr (.inr (.inr (.inr (.inr ⟨rfl, h⟩))))

/-- In a state, an instruction leaves a certain core, makes certain stores, at addresses it is said to store to, and
certain output port writes, none unless it is `OUT`; the same in all surroundings that look the same to it. -/
def HasEffect (i : Instr) (s : State) : Prop :=
  ∃ (core : State) (stores : List (Word × Byte)) (writes : List (Byte × Byte)),
    (∀ st ∈ stores, StoresTo i s st.1) ∧ ((∀ p, i ≠ .out p) → writes = []) ∧
    ∀ w, SameReads s w → ((∃ p, i = .inp p) → w.inPort = s.inPort) →
      exec i (s.within w) = .next (core.within (w.put stores writes))

/-- The effect of an instruction that leaves its surroundings alone. -/
theorem HasEffect.ofCore {i : Instr} {s : State} (core : State)
    (h : ∀ w, SameReads s w → exec i (s.within w) = .next (core.within w)) : HasEffect i s :=
  ⟨core, [], [], by simp, fun _ => rfl, fun w hw _ => h w hw⟩

/-- The effect of an instruction that stores one byte. -/
theorem HasEffect.ofByte {i : Instr} {s : State} (core : State) (a : Word) (v : Byte) (ha : StoresTo i s a)
    (h : ∀ w, SameReads s w → exec i (s.within w) = .next (core.within (w.put [(a, v)] []))) : HasEffect i s :=
  ⟨core, [(a, v)], [], by simpa using ha, fun _ => rfl, fun w hw _ => h w hw⟩

/-- The effect of an instruction that stores two bytes. -/
theorem HasEffect.ofBytes {i : Instr} {s : State} (core : State) (a b : Word) (u v : Byte)
    (ha : StoresTo i s a) (hb : StoresTo i s b)
    (h : ∀ w, SameReads s w → exec i (s.within w) = .next (core.within (w.put [(a, u), (b, v)] []))) : HasEffect i s :=
  ⟨core, [(a, u), (b, v)], [], by simp [ha, hb], fun _ => rfl, fun w hw _ => h w hw⟩

/-- The effect of an instruction that writes a slot after its other work on the core. -/
theorem HasEffect.ofSlot {i : Instr} {s : State} (core : State) (x : Slot) (v : Byte) (hl : core.hl = s.hl)
    (hm : x = .m → StoresTo i s s.hl)
    (h : ∀ w, SameReads s w → exec i (s.within w) = .next ((core.within w).writeSlot x v)) : HasEffect i s := by
  cases x with
  | reg r => exact .ofCore (core.writeSlot (.reg r) v) fun w hw => by rw [h w hw, State.writeSlot_reg_within]
  | m => exact .ofByte core s.hl v (hm rfl) fun w hw => by rw [h w hw, State.writeSlot_m_within, hl]

/-- The effect of an instruction that pushes a return address and goes to a target. -/
theorem HasEffect.ofCall {i : Instr} {s : State} (ret target : Word)
    (ha : ∀ a, a = s.sp - 1 ∨ a = s.sp - 2 → StoresTo i s a)
    (h : ∀ w, exec i (s.within w) = .next ((s.within w).callTo ret target)) : HasEffect i s :=
  .ofBytes { s with sp := s.sp - 2, pc := target } _ _ _ _ (ha _ (.inl rfl)) (ha _ (.inr rfl)) fun w _ =>
    (h w).trans (congrArg _ (s.callTo_within w ret target))

/-- Every instruction with an assigned opcode byte has an effect, in every state. -/
theorem exec_hasEffect (i : Instr) (s : State) (hi : ∀ op, i ≠ .unassigned op) : HasEffect i s := by
  induction i using Instr.byForm with
  | unassigned op => exact absurd rfl (hi op)
  | mov dst src =>
    exact .ofCore (s.moveReg dst src) fun w _ => by
      rw [exec_mov, State.moveReg, State.readReg_within, State.writeReg_within]; rfl
  | movFromM r =>
    exact .ofCore (s.loadReg r) fun w hw => by
      rw [exec_movFromM, State.loadReg, hw.readSlot, State.writeReg_within]; rfl
  | lxi p v =>
    exact .ofCore (s.loadPairImm p v) fun w _ => by rw [exec_lxi, State.loadPairImm, State.writePair_within]; rfl
  | lda a => exact .ofCore (s.loadAcc a 3) fun w hw => by rw [exec_lda, State.loadAcc, hw]; rfl
  | ldax p =>
    exact .ofCore (s.loadAcc (s.readBase p) 1) fun w hw => by
      rw [exec_ldax, State.loadAcc, State.readBase_within, hw]; rfl
  | lhld a => exact .ofCore (s.loadHL a) fun w hw => by rw [exec_lhld, State.loadHL, hw.readWord]; rfl
  | add x => exact .ofCore (s.addAcc (s.readSlot x) 1) fun w hw => by rw [exec_add, hw.readSlot]; rfl
  | adc x => exact .ofCore (s.adcAcc (s.readSlot x) 1) fun w hw => by rw [exec_adc, hw.readSlot]; rfl
  | sub x => exact .ofCore (s.subAcc (s.readSlot x) 1) fun w hw => by rw [exec_sub, hw.readSlot]; rfl
  | sbb x => exact .ofCore (s.sbbAcc (s.readSlot x) 1) fun w hw => by rw [exec_sbb, hw.readSlot]; rfl
  | cmp x => exact .ofCore (s.cmpAcc (s.readSlot x) 1) fun w hw => by rw [exec_cmp, hw.readSlot]; rfl
  | ana x => exact .ofCore (s.logicAcc .and (s.readSlot x) 1) fun w hw => by rw [exec_ana, hw.readSlot]; rfl
  | xra x => exact .ofCore (s.logicAcc .xor (s.readSlot x) 1) fun w hw => by rw [exec_xra, hw.readSlot]; rfl
  | ora x => exact .ofCore (s.logicAcc .or (s.readSlot x) 1) fun w hw => by rw [exec_ora, hw.readSlot]; rfl
  | adi v => exact .ofCore (s.addAcc v 2) fun _ _ => rfl
  | aci v => exact .ofCore (s.adcAcc v 2) fun _ _ => rfl
  | sui v => exact .ofCore (s.subAcc v 2) fun _ _ => rfl
  | sbi v => exact .ofCore (s.sbbAcc v 2) fun _ _ => rfl
  | cpi v => exact .ofCore (s.cmpAcc v 2) fun _ _ => rfl
  | ani v => exact .ofCore (s.logicAcc .and v 2) fun _ _ => rfl
  | xri v => exact .ofCore (s.logicAcc .xor v 2) fun _ _ => rfl
  | ori v => exact .ofCore (s.logicAcc .or v 2) fun _ _ => rfl
  | inx p =>
    exact .ofCore (s.incPair p) fun w _ => by
      rw [exec_inx, State.incPair, State.readPair_within, State.writePair_within]; rfl
  | dcx p =>
    exact .ofCore (s.decPair p) fun w _ => by
      rw [exec_dcx, State.decPair, State.readPair_within, State.writePair_within]; rfl
  | dad p => exact .ofCore (s.addPairToHL p) fun w _ => by rw [exec_dad, State.addPairToHL, State.readPair_within]; rfl
  | xchg => exact .ofCore s.exchangeDE fun _ _ => rfl
  | daa => exact .ofCore (s.setAcc (daa8 s.a s.flags) 1) fun _ _ => rfl
  | cma => exact .ofCore (({ s with a := ~~~s.a } : State).advance 1) fun _ _ => rfl
  | stc => exact .ofCore (s.setCarry true) fun _ _ => rfl
  | cmc => exact .ofCore (s.setCarry (!s.flags.cy)) fun _ _ => rfl
  | rlc => exact .ofCore (s.rotateAcc (rotLeft s.a)) fun _ _ => rfl
  | rrc => exact .ofCore (s.rotateAcc (rotRight s.a)) fun _ _ => rfl
  | ral => exact .ofCore (s.rotateAcc (rotLeftCarry s.a s.flags.cy)) fun _ _ => rfl
  | rar => exact .ofCore (s.rotateAcc (rotRightCarry s.a s.flags.cy)) fun _ _ => rfl
  | sphl => exact .ofCore (({ s with sp := s.hl } : State).advance 1) fun _ _ => rfl
  | jmp a => exact .ofCore (s.jumpTo a) fun _ _ => rfl
  | pchl => exact .ofCore (s.jumpTo s.hl) fun _ _ => rfl
  | nop => exact .ofCore (s.advance 1) fun _ _ => rfl
  | hlt => exact .ofCore (({ s with halted := true } : State).advance 1) fun _ _ => rfl
  | ei => exact .ofCore (({ s with ie := true } : State).advance 1) fun _ _ => rfl
  | di => exact .ofCore (({ s with ie := false } : State).advance 1) fun _ _ => rfl
  | pop p =>
    exact .ofCore (s.popPair p) fun w hw => by rw [exec_pop, State.popPair_within hw]
  | ret => exact .ofCore s.returnFrom fun w hw => by rw [exec_ret, State.returnFrom_within hw]
  | rccc cond =>
    refine .ofCore (s.returnIf cond) fun w hw => ?_
    rw [exec_rccc, State.returnIf, State.returnIf, State.returnFrom_within hw, show (s.within w).flags = s.flags from rfl]
    split <;> rfl
  | jccc cond a =>
    refine .ofCore (s.jumpIf cond a) fun w _ => ?_
    rw [exec_jccc, State.jumpIf, State.jumpIf, show (s.within w).flags = s.flags from rfl]
    split <;> rfl
  | inp p =>
    exact ⟨s.inputWith none p, [], [], by simp, fun _ => rfl, fun w _ hin => by
      rw [exec_inp, State.inputWith_within (hin ⟨p, rfl⟩)]; rfl⟩
  | out p => exact ⟨s.advance 2, [], [(p, s.a)], by simp, fun h => absurd rfl (h p), fun _ _ _ => rfl⟩
  | movToM r =>
    exact .ofSlot (s.advance 1) .m (s.readReg r) rfl (fun _ => storesTo_hl (.inl ⟨r, rfl⟩)) fun w _ => by
      rw [exec_movToM, State.storeReg, State.writeSlot_advance, State.readReg_within]; rfl
  | mvi x v =>
    exact .ofSlot (s.advance 2) x v rfl (fun hx => storesTo_hl (.inr (.inl ⟨v, by rw [hx]⟩))) fun w _ => by
      rw [exec_mvi, State.moveImm, State.writeSlot_advance]; rfl
  | inr x =>
    exact .ofSlot (s.flagIncrement (s.readSlot x)) x (s.readSlot x + 1) rfl
      (fun hx => storesTo_hl (.inr (.inr (.inl (by rw [hx]))))) fun w hw => by
      rw [exec_inr, State.incSlot_eq, hw.readSlot]; rfl
  | dcr x =>
    exact .ofSlot (s.flagDecrement (s.readSlot x)) x (s.readSlot x - 1) rfl
      (fun hx => storesTo_hl (.inr (.inr (.inr (by rw [hx]))))) fun w hw => by
      rw [exec_dcr, State.decSlot_eq, hw.readSlot]; rfl
  | sta a =>
    exact .ofByte (s.advance 3) a s.a (storesTo_sta s a) fun w _ => by
      rw [exec_sta, State.storeAcc, State.writeByte_within]; rfl
  | stax p =>
    exact .ofByte (s.advance 1) (s.readBase p) s.a (storesTo_stax s p) fun w _ => by
      rw [exec_stax, State.storeAcc, State.readBase_within, State.writeByte_within]; rfl
  | shld a =>
    exact .ofBytes (s.advance 3) a (a + 1) (lowByte s.hl) (highByte s.hl) (storesTo_shld s (.inl rfl))
      (storesTo_shld s (.inr rfl)) fun w _ => by
      rw [exec_shld, State.storeHL, State.writeWord_within]; rfl
  | xthl =>
    exact .ofBytes ((s.setHL (s.readWord s.sp)).advance 1) s.sp (s.sp + 1) (lowByte s.hl) (highByte s.hl)
      (storesTo_xthl (.inl rfl)) (storesTo_xthl (.inr rfl)) fun w hw => by rw [exec_xthl, State.exchangeTop_within hw]
  | push p =>
    exact .ofBytes (({ s with sp := s.sp - 2 } : State).advance 1) _ _ _ _
      (storesTo_stack (.inl ⟨p, rfl⟩) (.inl rfl)) (storesTo_stack (.inl ⟨p, rfl⟩) (.inr rfl)) fun w _ => by
      rw [exec_push, State.pushPair, State.readStackPair_within, State.push16_within]; rfl
  | call a =>
    exact .ofCall (s.pc + 3) a (fun _ ha => storesTo_stack (.inr (.inl ⟨a, rfl⟩)) ha) fun w => exec_call a _
  | cccc cond a =>
    by_cases hc : condHolds cond s.flags = true
    · exact .ofCall (s.pc + 3) a (fun _ ha => storesTo_stack (.inr (.inr (.inl ⟨cond, a, rfl, hc⟩))) ha) fun w => by
        rw [exec_cccc, State.callIf, if_pos (show condHolds cond (s.within w).flags = true from hc)]; rfl
    · exact .ofCore (s.advance 3) fun w _ => by
        rw [exec_cccc, State.callIf, if_neg (show ¬condHolds cond (s.within w).flags = true from hc)]; rfl
  | rst n =>
    exact .ofCall (s.pc + 1) (vectorAddress n) (fun _ ha => storesTo_stack (.inr (.inr (.inr ⟨n, rfl⟩))) ha) fun w =>
      exec_rst n _

end Sys2Proof.Machine
end

section
/-!
What follows from `exec_hasEffect` for one instruction: it completes, memory and ports change by its stores and port writes
alone (canonical form, frame), and states that differ outside what it sees give results that differ there alone.
-/
namespace Sys2Proof.Machine

/-- An instruction that answers a next state is not an unassigned byte. -/
theorem ne_unassigned_of_exec_next {i : Instr} {s t : State} (h : exec i s = .next t) (op : Byte) :
    i ≠ .unassigned op := by
  rintro rfl
  rw [exec_unassigned] at h
  cases h

/-- The next state of an instruction is its core in the surroundings its stores and port writes give. -/
theorem exec_next_effect {i : Instr} {s t : State} (h : exec i s = .next t) :
    ∃ (core : State) (stores : List (Word × Byte)) (writes : List (Byte × Byte)),
      (∀ st ∈ stores, StoresTo i s st.1) ∧ ((∀ p, i ≠ .out p) → writes = []) ∧
      t = core.within (s.surroundings.put stores writes) := by
  obtain ⟨core, stores, writes, hstores, hwrites, hexec⟩ := exec_hasEffect i s (ne_unassigned_of_exec_next h)
  refine ⟨core, stores, writes, hstores, hwrites, ?_⟩
  have hs := hexec s.surroundings (.refl s) fun _ => rfl
  rw [State.within_surroundings, h] at hs
  cases hs
  rfl

/-- Settles O13: an instruction has an effect, and so a next state (R284, R302). -/
theorem everyAssignedInstructionCompletes : Obligations.EveryAssignedInstructionCompletes := by
  intro i s hi
  obtain ⟨core, stores, writes, -, -, hexec⟩ := exec_hasEffect i s hi
  exact ⟨_, hexec s.surroundings (.refl s) fun _ => rfl⟩

/-! Stores, cell by cell, and the canonical form -/

theorem Memory.get_store (m : Memory) (a : Word) (v : Byte) (k : Nat) :
    Cells.get (m.store a v) k = if 0x2000 ≤ a ∧ k = (phys a).toNat then v else Cells.get m k := by
  have h := State.cell_writeByte { State.reset with mem := m } a v k
  rw [State.writeByte_eq] at h
  exact h

/-- A cell that no store reaches, at 0x2000 or above, is as before. -/
theorem Memory.get_storeAll {m : Memory} {stores : List (Word × Byte)} {k : Nat}
    (h : ∀ st ∈ stores, 0x2000 ≤ st.1 → k ≠ (phys st.1).toNat) : Cells.get (m.storeAll stores) k = Cells.get m k := by
  induction stores generalizing m with
  | nil => rfl
  | cons st rest ih =>
    have hst := h st List.mem_cons_self
    rw [Memory.storeAll, List.foldl_cons, ← Memory.storeAll, ih fun st' h' => h st' (List.mem_cons_of_mem _ h'),
      Memory.get_store, if_neg fun hk => hst hk.1 hk.2]

theorem Memory.wf_store {m : Memory} (h : Memory.wf m) (a : Word) (v : Byte) : Memory.wf (m.store a v) := by
  unfold Memory.store
  split
  · exact Cells.wf_set h (lt_trans (phys_toNat_lt a) (by decide)) v
  · exact h

theorem Memory.wf_storeAll {m : Memory} (h : Memory.wf m) (stores : List (Word × Byte)) :
    Memory.wf (m.storeAll stores) := by
  induction stores generalizing m with
  | nil => exact h
  | cons st rest ih => exact ih (Memory.wf_store h st.1 st.2)

theorem Ports.wf_writeAll {ports : Ports} (h : Ports.wf ports) (writes : List (Byte × Byte)) :
    Ports.wf (ports.writeAll writes) := by
  induction writes generalizing ports with
  | nil => exact h
  | cons pv rest ih => exact ih (Cells.wf_set h pv.1.isLt pv.2)

/-- Every instruction keeps the canonical form. -/
theorem State.Inv.exec {i : Instr} {s t : State} (h : s.Inv) (ht : Machine.exec i s = .next t) : t.Inv := by
  obtain ⟨core, stores, writes, -, -, rfl⟩ := exec_next_effect ht
  obtain ⟨hmem, hin, hout⟩ := h
  exact ⟨Memory.wf_storeAll hmem stores, hin, Ports.wf_writeAll hout writes⟩

/-- Settles O16: a step leaves a halted core alone, or executes an instruction and accounts for it. -/
theorem stepKeepsInvariant : Obligations.StepKeepsInvariant := by
  intro s t hs ht
  rcases step_next_cases ht with ⟨-, rfl⟩ | ⟨-, u, hu, rfl⟩
  · exact hs
  · exact (hs.exec hu).of_eq rfl rfl rfl

/-- Settles O24: the stores of an instruction are at addresses `StoresTo` names. -/
theorem memoryKeptOutsideStores : Obligations.MemoryKeptOutsideStores := by
  intro i s t h k hk
  obtain ⟨core, stores, writes, hstores, -, rfl⟩ := exec_next_effect h
  exact Memory.get_storeAll fun st hst => hk st.1 (hstores st hst)

/-! Noninterference -/

/-- Changing the surroundings to others that an instruction sees no difference in changes its result by no more than them. -/
theorem exec_within_related {rel : State → State → Prop} {i : Instr} {s : State} {w : Surroundings}
    (hreads : SameReads s w) (hin : (∃ p, i = .inp p) → w.inPort = s.inPort)
    (hrel : ∀ (core : State) (stores : List (Word × Byte)) (writes : List (Byte × Byte)),
      ((∀ p, i ≠ .out p) → writes = []) →
      rel (core.within (s.surroundings.put stores writes)) (core.within (w.put stores writes))) :
    ResultsRelated rel (exec i s) (exec i (s.within w)) := by
  by_cases hi : ∃ op, i = .unassigned op
  · obtain ⟨op, rfl⟩ := hi
    rfl
  · obtain ⟨core, stores, writes, -, hwrites, hexec⟩ := exec_hasEffect i s (not_exists.1 hi)
    have hs := hexec s.surroundings (.refl s) fun _ => rfl
    rw [State.within_surroundings] at hs
    rw [hs, hexec w hreads hin]
    exact hrel core stores writes hwrites

/-- Accounting for related results gives related results, if it keeps the relation of the next states. -/
theorem ResultsRelated.accounted {rel rel' : State → State → Prop} {r q : Result} (op : Byte)
    (h : ResultsRelated rel r q) (hrel : ∀ t u, rel t u → rel' (t.account op) (u.account op)) :
    ResultsRelated rel' (Machine.accounted op r) (Machine.accounted op q) := by
  cases r with
  | next t =>
    cases q with
    | next u => exact hrel t u h
    | fault _ | refused _ => exact h
  | fault _ | refused _ => cases q <;> exact h

/-- Steps of states that fetch alike are related if the executions are. -/
theorem step_within_related {rel : State → State → Prop} {s : State} {w : Surroundings} (hreads : SameReads s w)
    (hhalted : rel s (s.within w))
    (hexec : ResultsRelated (fun t u => rel (t.account s.fetchOpcode) (u.account s.fetchOpcode))
      (exec s.fetchInstr s) (exec s.fetchInstr (s.within w))) :
    ResultsRelated rel (step s) (step (s.within w)) := by
  have hop : (s.within w).fetchOpcode = s.fetchOpcode := hreads _
  have hinstr : (s.within w).fetchInstr = s.fetchInstr := by
    rw [State.fetchInstr, hop, hreads, hreads]; rfl
  cases hh : s.halted with
  | true =>
    rw [step, if_pos hh, step, if_pos (show (s.within w).halted = true from hh)]
    exact hhalted
  | false =>
    rw [step_running hh, step_running (show (s.within w).halted = false from hh), hop, hinstr]
    exact hexec.accounted _ fun _ _ h => h

/-- Settles O18: the counters are among the surroundings, and an instruction that leaves surroundings alone leaves a shift
of them alone. -/
theorem countersAreNeverRead : Obligations.CountersAreNeverRead := by
  intro s c n
  refine step_within_related (w := { s.surroundings with cycles := s.cycles + c, instrs := s.instrs + n })
    (fun _ => rfl) rfl (exec_within_related (fun _ => rfl) (fun _ => rfl) fun core stores writes _ => ?_)
  have hcycles := add_right_comm s.cycles c (cycleCost s.fetchOpcode)
  have hinstrs := add_right_comm s.instrs n 1
  exact congrArg₂ (fun cycles instrs =>
    core.within { s.surroundings.put stores writes with cycles := cycles, instrs := instrs }) hcycles hinstrs

/-- Settles O20: the port banks are among the surroundings; only `IN` sees IN_PORT, and only `OUT` makes port writes. -/
theorem portBankAccess : Obligations.PortBankAccess := by
  intro i s ports
  refine ⟨fun hi => ?inPort, fun hi => ?outPort, fun t ht => ?kept⟩
  case inPort =>
    exact exec_within_related (w := { s.surroundings with inPort := ports }) (fun _ => rfl)
      (fun ⟨p, hp⟩ => absurd hp (hi p)) fun _ _ _ _ => rfl
  case outPort =>
    refine exec_within_related (w := { s.surroundings with outPort := ports }) (fun _ => rfl) (fun _ => rfl)
      fun core stores writes hwrites => ?_
    rw [hwrites hi]; rfl
  case kept =>
    obtain ⟨core, stores, writes, -, hwrites, rfl⟩ := exec_next_effect ht
    exact ⟨rfl, fun hi => by rw [hwrites hi]; rfl⟩

/-- Storing the same bytes in two memories that agree below 0x4000 leaves them so (R43: no address selects a cell above). -/
theorem Memory.get_storeAll_congr {m n : Memory} (h : ∀ k < 0x4000, Cells.get n k = Cells.get m k)
    (stores : List (Word × Byte)) :
    ∀ k < 0x4000, Cells.get (n.storeAll stores) k = Cells.get (m.storeAll stores) k := by
  induction stores generalizing m n with
  | nil => exact h
  | cons st rest ih => exact ih fun k hk => by rw [Memory.get_store, Memory.get_store, h k hk]

/-- Settles O8: cells above 0x4000 are no address's, so the surroundings hold the same bytes at every address. -/
theorem hiddenCellsAreNeverRead : Obligations.HiddenCellsAreNeverRead := by
  rintro s t ⟨hagree, hcells⟩
  have ht : t = s.within { s.surroundings with mem := t.mem } :=
    congrArg (fun u : State => { u with mem := t.mem }) hagree
  have hreads : SameReads s { s.surroundings with mem := t.mem } := fun a => hcells _ (phys_toNat_lt a)
  rw [ht]
  exact step_within_related hreads ⟨rfl, hcells⟩ (exec_within_related hreads (fun _ => rfl)
    fun core stores writes _ => ⟨rfl, Memory.get_storeAll_congr hcells stores⟩)

end Sys2Proof.Machine
end

section
/-!
Frames: which instruction may change PC other than by its length, the flags, the registers and SP, IE and HALTED. Each is a
case split over the generic forms in which the forms that may change the thing are named first and the rest, which are
built from operations that keep it, are closed together by the laws of those operations.
-/
namespace Sys2Proof.Machine

/-! What the conditional transfers can do -/

theorem State.jumpIf_cases (s : State) (cond : Cond) (w : Word) :
    s.jumpIf cond w = s.jumpTo w ∨ s.jumpIf cond w = s.advance 3 := by
  unfold State.jumpIf
  split
  · exact .inl rfl
  · exact .inr rfl

theorem State.callIf_cases (s : State) (cond : Cond) (w : Word) :
    s.callIf cond w = s.callTo (s.pc + 3) w ∨ s.callIf cond w = s.advance 3 := by
  unfold State.callIf
  split
  · exact .inl rfl
  · exact .inr rfl

theorem State.returnIf_cases (s : State) (cond : Cond) :
    s.returnIf cond = s.returnFrom ∨ s.returnIf cond = s.advance 1 := by
  unfold State.returnIf
  split
  · exact .inl rfl
  · exact .inr rfl

/-! The meanings by the operation laws of Laws/State.lean: each as the updates it is made of -/

@[simp] theorem State.moveReg_eq (s : State) (dst src : Reg) :
    s.moveReg dst src = (s.writeReg dst (s.readReg src)).advance 1 := rfl
@[simp] theorem State.loadReg_eq (s : State) (dst : Reg) : s.loadReg dst = (s.writeReg dst (s.readSlot .m)).advance 1 := rfl
@[simp] theorem State.storeReg_eq (s : State) (src : Reg) :
    s.storeReg src = (s.writeSlot .m (s.readReg src)).advance 1 := rfl
@[simp] theorem State.moveImm_eq (s : State) (x : Slot) (v : Byte) : s.moveImm x v = (s.writeSlot x v).advance 2 := rfl
@[simp] theorem State.loadPairImm_eq (s : State) (p : Pair) (w : Word) :
    s.loadPairImm p w = (s.writePair p w).advance 3 := rfl
@[simp] theorem State.loadAcc_eq (s : State) (a len : Word) :
    s.loadAcc a len = (s.writeReg .a (s.readByte a)).advance len := rfl
@[simp] theorem State.storeAcc_eq (s : State) (a len : Word) : s.storeAcc a len = (s.writeByte a s.a).advance len := rfl
@[simp] theorem State.loadHL_eq (s : State) (a : Word) : s.loadHL a = (s.setHL (s.readWord a)).advance 3 := rfl
@[simp] theorem State.storeHL_eq (s : State) (a : Word) : s.storeHL a = (s.writeWord a s.hl).advance 3 := rfl
@[simp] theorem State.exchangeDE_eq (s : State) : s.exchangeDE = ((s.setHL s.de).setDE s.hl).advance 1 := by
  simp only [State.setHL, State.setDE, State.de, State.hl, highByte_joinBytes, lowByte_joinBytes]; rfl
@[simp] theorem State.incPair_eq (s : State) (p : Pair) : s.incPair p = (s.writePair p (s.readPair p + 1)).advance 1 := rfl
@[simp] theorem State.decPair_eq (s : State) (p : Pair) : s.decPair p = (s.writePair p (s.readPair p - 1)).advance 1 := rfl
@[simp] theorem State.pushPair_eq (s : State) (p : StackPair) :
    s.pushPair p = (s.push16 (s.readStackPair p)).advance 1 := rfl
@[simp] theorem State.exchangeTop_eq (s : State) :
    s.exchangeTop = ((s.writeWord s.sp s.hl).setHL (s.readWord s.sp)).advance 1 := rfl

@[simp] theorem State.addPairToHL_eq (s : State) (p : Pair) :
    s.addPairToHL p =
      (({ s with flags := { s.flags with cy := decide (s.hl.toNat + (s.readPair p).toNat > 0xFFFF) } } : State).setHL
        (BitVec.ofNat 16 (s.hl.toNat + (s.readPair p).toNat))).advance 1 := rfl
@[simp] theorem State.popPair_eq (s : State) (p : StackPair) :
    s.popPair p = (({ s with sp := s.sp + 2 } : State).writeStackPair p (s.readWord s.sp)).advance 1 := rfl
@[simp] theorem State.rotateAcc_eq (s : State) (r : Byte × Bool) : s.rotateAcc r = (s.writeReg .a r.1).setCarry r.2 := rfl
@[simp] theorem State.inputWith_none (s : State) (p : Byte) :
    s.inputWith none p = (s.writeReg .a (s.readInPort p)).advance 2 := rfl
@[simp] theorem State.outputWith_nil (s : State) (p : Byte) : s.outputWith [] p = (s.writeOutPort p s.a).advance 2 := rfl
@[simp] theorem State.addAcc_eq (s : State) (v : Byte) (len : Word) :
    s.addAcc v len = s.setAcc (add8 s.a v false s.flags) len := rfl
@[simp] theorem State.adcAcc_eq (s : State) (v : Byte) (len : Word) :
    s.adcAcc v len = s.setAcc (add8 s.a v s.flags.cy s.flags) len := rfl
@[simp] theorem State.subAcc_eq (s : State) (v : Byte) (len : Word) :
    s.subAcc v len = s.setAcc (sub8 s.a v false s.flags) len := rfl
@[simp] theorem State.sbbAcc_eq (s : State) (v : Byte) (len : Word) :
    s.sbbAcc v len = s.setAcc (sub8 s.a v s.flags.cy s.flags) len := rfl
@[simp] theorem State.logicAcc_eq (s : State) (op : LogicOp) (v : Byte) (len : Word) :
    s.logicAcc op v len = s.setAcc (logic8 op s.a v s.flags) len := rfl

@[simp] theorem State.incSlot_eq_advance (s : State) (x : Slot) :
    s.incSlot x = (({ s with flags := (inc8 (s.readSlot x) s.flags).2 } : State).writeSlot x (s.readSlot x + 1)).advance 1 :=
  rfl
@[simp] theorem State.decSlot_eq_advance (s : State) (x : Slot) :
    s.decSlot x = (({ s with flags := (dec8 (s.readSlot x) s.flags).2 } : State).writeSlot x (s.readSlot x - 1)).advance 1 :=
  rfl

/-- The state after an instruction: the next state, or the state before where there is none. -/
def State.executed (s : State) (i : Instr) : State :=
  match exec i s with
  | .next t => t
  | .fault _ => s
  | .refused _ => s

theorem State.executed_eq {i : Instr} {s t : State} (h : exec i s = .next t) : s.executed i = t := by
  rw [State.executed, h]

/-! IE, HALTED and the counters -/

theorem State.executed_ie (s : State) {i : Instr} (hei : i ≠ .ei) (hdi : i ≠ .di) : (s.executed i).ie = s.ie := by
  induction i using Instr.byForm with
  | ei => exact absurd rfl hei
  | di => exact absurd rfl hdi
  | jccc cond w => rcases s.jumpIf_cases cond w with e | e <;> simp [State.executed, e]
  | cccc cond w => rcases s.callIf_cases cond w with e | e <;> simp [State.executed, e]
  | rccc cond => rcases s.returnIf_cases cond with e | e <;> simp [State.executed, e]
  | _ => simp [State.executed]

theorem State.executed_halted (s : State) {i : Instr} (hhlt : i ≠ .hlt) : (s.executed i).halted = s.halted := by
  induction i using Instr.byForm with
  | hlt => exact absurd rfl hhlt
  | jccc cond w => rcases s.jumpIf_cases cond w with e | e <;> simp [State.executed, e]
  | cccc cond w => rcases s.callIf_cases cond w with e | e <;> simp [State.executed, e]
  | rccc cond => rcases s.returnIf_cases cond with e | e <;> simp [State.executed, e]
  | _ => simp [State.executed]

/-- Settles O23: IE and HALTED by form; the counters are among the surroundings, which `exec` gives back (R285). -/
theorem controlStateKept : Obligations.ControlStateKept := by
  intro i s t h
  refine ⟨fun hei hdi => ?ie, fun hhlt => ?halted, ?counters⟩
  case ie => rw [← State.executed_eq h, s.executed_ie hei hdi]
  case halted => rw [← State.executed_eq h, s.executed_halted hhlt]
  case counters =>
    obtain ⟨core, stores, writes, -, -, rfl⟩ := exec_next_effect h
    exact ⟨rfl, rfl⟩

/-! PC -/

theorem State.executed_pc (s : State) {i : Instr} (hi : ¬TransfersControl i) (hop : ∀ op, i ≠ .unassigned op) :
    (s.executed i).pc = s.pc + BitVec.ofNat 16 (encode i).length := by
  unfold TransfersControl at hi
  induction i using Instr.byForm with
  | unassigned op => exact absurd rfl (hop op)
  | jmp w | jccc cond w | call w | cccc cond w | ret | rccc cond | rst n | pchl => simp at hi
  | lda w | sta w | lhld w | shld w | xchg | adi v | aci v | sui v | sbi v | cpi v | ani v | xri v | ori v | daa | cma
  | stc | cmc | rlc | rrc | ral | rar | xthl | sphl | nop | hlt | ei | di | inp p | out p =>
    simp [State.executed]; rfl
  | _ => simp [State.executed, withWord]

/-- Settles O25: each form that is no transfer is its updates and an advance by its length (R18 (a)). -/
theorem pcAdvancesByLength : Obligations.PCAdvancesByLength := by
  intro i s t h hi
  rw [← State.executed_eq h, s.executed_pc hi (ne_unassigned_of_exec_next h)]

/-! Flags -/

theorem State.executed_zspac (s : State) {i : Instr} (hi : ¬WritesZSPAC i) :
    (s.executed i).flags.z = s.flags.z ∧ (s.executed i).flags.s = s.flags.s ∧ (s.executed i).flags.p = s.flags.p ∧
      (s.executed i).flags.ac = s.flags.ac := by
  induction i using Instr.byForm with
  | add x | adc x | sub x | sbb x | ana x | xra x | ora x => exact (hi (.inl (.inl ⟨x, by simp⟩))).elim
  | adi v | aci v | sui v | sbi v | ani v | xri v | ori v => exact (hi (.inl (.inr (.inl ⟨v, by simp⟩)))).elim
  | daa => exact (hi (.inl (.inr (.inr rfl)))).elim
  | cmp x => exact (hi (.inr (.inl (.inl ⟨x, rfl⟩)))).elim
  | cpi v => exact (hi (.inr (.inl (.inr ⟨v, rfl⟩)))).elim
  | inr x | dcr x => exact (hi (.inr (.inr (.inl ⟨x, by simp⟩)))).elim
  | pop p =>
    cases p with
    | psw => exact (hi (.inr (.inr (.inr rfl)))).elim
    | bc | de | hl => simp [State.executed, State.writeStackPair]
  | jccc cond w => rcases s.jumpIf_cases cond w with e | e <;> simp [State.executed, e]
  | cccc cond w => rcases s.callIf_cases cond w with e | e <;> simp [State.executed, e]
  | rccc cond => rcases s.returnIf_cases cond with e | e <;> simp [State.executed, e]
  | _ => simp [State.executed]

theorem State.executed_cy (s : State) {i : Instr} (hi : ¬WritesCY i) : (s.executed i).flags.cy = s.flags.cy := by
  induction i using Instr.byForm with
  | add x | adc x | sub x | sbb x | ana x | xra x | ora x => exact (hi (.inl (.inl ⟨x, by simp⟩))).elim
  | adi v | aci v | sui v | sbi v | ani v | xri v | ori v => exact (hi (.inl (.inr (.inl ⟨v, by simp⟩)))).elim
  | daa => exact (hi (.inl (.inr (.inr rfl)))).elim
  | cmp x => exact (hi (.inr (.inl (.inl ⟨x, rfl⟩)))).elim
  | cpi v => exact (hi (.inr (.inl (.inr ⟨v, rfl⟩)))).elim
  | dad p => exact (hi (.inr (.inr (.inl ⟨p, rfl⟩)))).elim
  | rlc | rrc | ral | rar => exact (hi (.inr (.inr (.inr (.inl (by simp [IsRotate])))))).elim
  | stc | cmc => exact (hi (.inr (.inr (.inr (.inr (by simp)))))).elim
  | pop p =>
    cases p with
    | psw => exact (hi (.inr (.inr (.inr (.inr (.inr (.inr rfl))))))).elim
    | bc | de | hl => simp [State.executed, State.writeStackPair]
  | inr x | dcr x => simp [State.executed, inc8_eq, dec8_eq, flagsOf]
  | jccc cond w => rcases s.jumpIf_cases cond w with e | e <;> simp [State.executed, e]
  | cccc cond w => rcases s.callIf_cases cond w with e | e <;> simp [State.executed, e]
  | rccc cond => rcases s.returnIf_cases cond with e | e <;> simp [State.executed, e]
  | _ => simp [State.executed]

/-- Settles O21: the forms R21's table does not list keep the flag. -/
theorem flagsKeptUnlessListed : Obligations.FlagsKeptUnlessListed := by
  intro i s t h
  rw [← State.executed_eq h]
  exact ⟨s.executed_zspac, s.executed_cy⟩

/-! Registers and SP -/

@[simp] theorem State.readReg_with_flags (s : State) (f : Flags) (r : Reg) :
    ({ s with flags := f } : State).readReg r = s.readReg r := by
  cases r <;> rfl

@[simp] theorem State.readReg_with_sp (s : State) (w : Word) (r : Reg) :
    ({ s with sp := w } : State).readReg r = s.readReg r := by
  cases r <;> rfl

@[simp] theorem State.readReg_with_halted (s : State) (b : Bool) (r : Reg) :
    ({ s with halted := b } : State).readReg r = s.readReg r := by
  cases r <;> rfl

@[simp] theorem State.readReg_with_ie (s : State) (b : Bool) (r : Reg) :
    ({ s with ie := b } : State).readReg r = s.readReg r := by
  cases r <;> rfl

@[simp] theorem State.readReg_setCarry (s : State) (b : Bool) (r : Reg) : (s.setCarry b).readReg r = s.readReg r := by
  cases r <;> rfl

@[simp] theorem State.readReg_cmpAcc (s : State) (v : Byte) (len : Word) (r : Reg) :
    (s.cmpAcc v len).readReg r = s.readReg r := by
  cases r <;> rfl

/-- `A <- v` as a register write. -/
theorem State.with_a_eq (s : State) (v : Byte) : ({ s with a := v } : State) = s.writeReg .a v := rfl

theorem State.readReg_setAcc (s : State) (p : Byte × Flags) (len : Word) {r : Reg} (hr : r ≠ .a) :
    (s.setAcc p len).readReg r = s.readReg r := by
  cases r with
  | a => exact absurd rfl hr
  | _ => rfl

/-- A pair write changes the two registers of the pair alone. -/
theorem State.readReg_writePair (s : State) (p : Pair) (w : Word) {r : Reg} (hr : regInPair r p = false) :
    (s.writePair p w).readReg r = s.readReg r := by
  cases p with
  | bc =>
    cases r with
    | b | c => cases hr
    | _ => rfl
  | de =>
    cases r with
    | d | e => cases hr
    | _ => rfl
  | hl =>
    cases r with
    | h | l => cases hr
    | _ => rfl
  | sp => exact s.readReg_with_sp w r

theorem State.readReg_setHL (s : State) (w : Word) {r : Reg} (hr : ¬(r = .h ∨ r = .l)) :
    (s.setHL w).readReg r = s.readReg r := by
  cases r with
  | h | l => simp at hr
  | _ => rfl

theorem State.readReg_setDE (s : State) (w : Word) {r : Reg} (hr : ¬(r = .d ∨ r = .e)) :
    (s.setDE w).readReg r = s.readReg r := by
  cases r with
  | d | e => simp at hr
  | _ => rfl

theorem State.writePair_sp (s : State) {p : Pair} (w : Word) (hp : p ≠ .sp) : (s.writePair p w).sp = s.sp := by
  cases p with
  | sp => exact absurd rfl hp
  | _ => rfl

/-- A stack pair write changes the registers of the pair alone. -/
theorem State.readReg_writeStackPair (s : State) (p : StackPair) (w : Word) {r : Reg} (hr : regInStackPair r p = false) :
    (s.writeStackPair p w).readReg r = s.readReg r := by
  cases p with
  | bc => exact s.readReg_writePair .bc w (by cases r <;> exact hr)
  | de => exact s.readReg_writePair .de w (by cases r <;> exact hr)
  | hl => exact s.readReg_writePair .hl w (by cases r <;> exact hr)
  | psw =>
    cases r with
    | a => cases hr
    | _ => rfl

theorem State.readReg_executed (s : State) {i : Instr} {r : Reg} (hi : ¬WritesReg i r) :
    (s.executed i).readReg r = s.readReg r := by
  unfold WritesReg at hi
  simp only [not_or] at hi
  obtain ⟨hmov, hmovFromM, hmvi, hinr, hdcr, hpair, hpop, hacc, hhl, hde⟩ := hi
  induction i using Instr.byForm with
  | mov dst src =>
    have hr : r ≠ dst := fun e => hmov ⟨src, by rw [e]⟩
    simp [State.executed, hr]
  | movFromM dst =>
    have hr : r ≠ dst := fun e => hmovFromM (by rw [e])
    simp [State.executed, hr]
  | mvi x v =>
    have hx : x ≠ .reg r := fun e => hmvi ⟨v, by rw [e]⟩
    simp [State.executed, State.readReg_writeSlot, hx]
  | inr x =>
    have hx : x ≠ .reg r := fun e => hinr (by rw [e])
    simp [State.executed, State.readReg_writeSlot, hx]
  | dcr x =>
    have hx : x ≠ .reg r := fun e => hdcr (by rw [e])
    simp [State.executed, State.readReg_writeSlot, hx]
  | lxi p w =>
    have hp : regInPair r p = false := Bool.eq_false_iff.2 fun e => hpair ⟨p, e, .inl ⟨w, rfl⟩⟩
    simp [State.executed, State.readReg_writePair _ _ _ hp]
  | inx p | dcx p =>
    have hp : regInPair r p = false := Bool.eq_false_iff.2 fun e => hpair ⟨p, e, .inr (by simp)⟩
    simp [State.executed, State.readReg_writePair _ _ _ hp]
  | pop p =>
    have hp : regInStackPair r p = false := Bool.eq_false_iff.2 fun e => hpop ⟨p, e, rfl⟩
    simp [State.executed, State.readReg_writeStackPair _ _ _ hp]
  | add x | adc x | sub x | sbb x | ana x | xra x | ora x =>
    have hr : r ≠ .a := fun e => hacc ⟨e, .inl (.inl ⟨x, by simp⟩)⟩
    simp [State.executed, State.readReg_setAcc _ _ _ hr]
  | adi v | aci v | sui v | sbi v | ani v | xri v | ori v =>
    have hr : r ≠ .a := fun e => hacc ⟨e, .inl (.inr (.inl ⟨v, by simp⟩))⟩
    simp [State.executed, State.readReg_setAcc _ _ _ hr]
  | daa =>
    have hr : r ≠ .a := fun e => hacc ⟨e, .inl (.inr (.inr rfl))⟩
    simp [State.executed, State.readReg_setAcc _ _ _ hr]
  | rlc | rrc | ral | rar =>
    have hr : r ≠ .a := fun e => hacc ⟨e, .inr (.inl (by simp [IsRotate]))⟩
    simp [State.executed, hr]
  | cma | lda w | ldax p | inp p =>
    have hr : r ≠ .a := fun e => hacc ⟨e, .inr (.inr (by simp))⟩
    simp [State.executed, State.with_a_eq, hr]
  | dad p | lhld w | xthl =>
    have hr : ¬(r = .h ∨ r = .l) := fun e => hhl ⟨e, by simp⟩
    simp [State.executed, State.readReg_setHL _ _ hr]
  | xchg =>
    have hr : ¬(r = .h ∨ r = .l) := fun e => hhl ⟨e, by simp⟩
    have hr' : ¬(r = .d ∨ r = .e) := fun e => hde ⟨e, rfl⟩
    simp [State.executed, State.readReg_setHL _ _ hr, State.readReg_setDE _ _ hr']
  | movToM src => simp [State.executed, State.readReg_writeSlot]
  | jccc cond w => rcases s.jumpIf_cases cond w with e | e <;> simp [State.executed, e]
  | cccc cond w => rcases s.callIf_cases cond w with e | e <;> simp [State.executed, e]
  | rccc cond => rcases s.returnIf_cases cond with e | e <;> simp [State.executed, e]
  | _ => simp [State.executed]

theorem State.executed_sp (s : State) {i : Instr} (hi : ¬WritesSP i) : (s.executed i).sp = s.sp := by
  unfold WritesSP at hi
  simp only [not_or] at hi
  obtain ⟨hlxi, hinx, hdcx, hsphl, hstack, hcall, hcccc, hret, hrccc, hrst⟩ := hi
  induction i using Instr.byForm with
  | sphl => exact absurd rfl hsphl
  | ret => exact absurd rfl hret
  | push p => exact absurd ⟨p, .inl rfl⟩ hstack
  | pop p => exact absurd ⟨p, .inr rfl⟩ hstack
  | call w => exact absurd ⟨w, rfl⟩ hcall
  | cccc cond w => exact absurd ⟨cond, w, rfl⟩ hcccc
  | rccc cond => exact absurd ⟨cond, rfl⟩ hrccc
  | rst n => exact absurd ⟨n, rfl⟩ hrst
  | lxi p w =>
    have hp : p ≠ .sp := fun e => hlxi ⟨w, by rw [e]⟩
    simp [State.executed, State.writePair_sp _ _ hp]
  | inx p =>
    have hp : p ≠ .sp := fun e => hinx (by rw [e])
    simp [State.executed, State.writePair_sp _ _ hp]
  | dcx p =>
    have hp : p ≠ .sp := fun e => hdcx (by rw [e])
    simp [State.executed, State.writePair_sp _ _ hp]
  | jccc cond w => rcases s.jumpIf_cases cond w with e | e <;> simp [State.executed, e]
  | _ => simp [State.executed]

/-- Settles O22: the forms that name no such destination are made of updates that keep the register, or SP. -/
theorem registersKeptUnlessNamed : Obligations.RegistersKeptUnlessNamed := by
  intro i s t h
  rw [← State.executed_eq h]
  exact ⟨fun _ => s.readReg_executed, s.executed_sp⟩

end Sys2Proof.Machine
end

section
/-!
Memory (20_memory.md): the address map by numbers, byte and word accesses, the memory load.
-/
namespace Sys2Proof.Machine

/-- An address selects a window cell exactly when it lies a multiple of the window's length above it (R43, R348). -/
theorem phys_eq_iff {a c : Word} (h1 : 0x2000 ≤ c.toNat) (h2 : c.toNat < 0x4000) :
    phys a = c ↔ ∃ k < 7, a.toNat = c.toNat + k * 0x2000 := by
  have ha := a.isLt
  rw [← BitVec.toNat_inj, phys_toNat]
  split
  · exact ⟨fun h => ⟨0, by omega, by omega⟩, fun ⟨k, _, h⟩ => by omega⟩
  · exact ⟨fun h => ⟨a.toNat / 0x2000 - 1, by omega, by omega⟩, fun ⟨k, _, h⟩ => by omega⟩

/-- Settles O4: the clauses are readings of `phys_toNat`. -/
theorem mirrorMap : Obligations.MirrorMap := by
  refine ⟨fun a ha => ?below, fun a ha => ?above, phys_toNat_lt, fun a => (phys_toNat_ge a).symm,
    fun a c h1 h2 => phys_eq_iff h1 h2⟩
  case below => exact if_pos ha
  case above => rw [phys_toNat, if_neg (Nat.not_lt.2 (show 0x4000 ≤ a.toNat from ha))]

/-- Settles O5: the laws of the byte store. -/
theorem byteAccesses : Obligations.ByteAccesses := by
  intro s a v
  refine ⟨rfl, fun ha => ?dropped, fun ha => ⟨fun k => ?cells, s.agrees_writeByte a v⟩⟩
  case dropped => exact if_neg (BitVec.not_le.2 ha)
  case cells => simp only [State.cell_writeByte, ha, true_and]

/-- The word at an address, from the cells of a state where it was stored whole (R47, R49). -/
theorem PairStored.readWord {s t : State} {a w : Word} (h : PairStored s t a (lowByte w) (highByte w))
    (h1 : 0x2000 ≤ a) (h2 : 0x2000 ≤ a + 1) : t.readWord a = w := by
  have hne := phys_succ_ne a
  rw [State.readWord, State.readByte, State.readByte, h, h, if_neg fun e => hne e.2, if_pos ⟨h2, rfl⟩, if_pos ⟨h1, rfl⟩,
    joinBytes_high_low]

/-- Settles O6: the laws of the word store, and the read-back from its cells. -/
theorem wordAccesses : Obligations.WordAccesses :=
  fun s a w => ⟨rfl, s.pairStored_writeWord a w, s.agrees_writeWord a w, (s.pairStored_writeWord a w).readWord⟩

/-- Settles O60: the two branches of the load, and `Cells.get_setMany` for the cells. -/
theorem loadIsAllOrNothing : Obligations.LoadIsAllOrNothing := by
  intro s buffer base
  by_cases hfit : base.toNat + buffer.length > 65536
  · have hload : s.load buffer base = none := if_pos hfit
    rw [if_pos hfit]
    exact ⟨hload, by rw [State.after, hload]; rfl⟩
  · rw [if_neg hfit]
    exact ⟨_, if_neg hfit, rfl, Cells.get_setMany s.mem buffer base.toNat⟩

end Sys2Proof.Machine
end

section
/-!
The step (47_fetch_decode_execute.md, 60_exceptions.md) by what the fetched bytes decode to, and the reset state.
-/
namespace Sys2Proof.Machine

/-- Settles O9: the step is `exec` of what `fetchInstr` decodes, accounted for. -/
theorem stepRunsDecodedInstruction : Obligations.StepRunsDecodedInstruction := by
  intro s i rest hrunning hdecode
  have hi : s.fetchInstr = i := decode_of_decodeBytes hdecode
  rw [step_running hrunning, hi]
  cases exec i s <;> rfl

/-- The fetched instruction is an unassigned byte exactly when the byte at PC is one of R83's twelve, and is that byte. -/
theorem State.fetchInstr_eq_unassigned_iff {s : State} {op : Byte} :
    s.fetchInstr = .unassigned op ↔ op = s.readByte s.pc ∧ s.readByte s.pc ∈ Config.unassignedOpcodes :=
  decode_eq_unassigned_iff

/-- A step of a halted core changes nothing (R281). -/
theorem step_halted {s : State} (h : s.halted = true) : step s = .next s := if_pos h

/-- A running core that decodes an unassigned byte stops (R300). -/
theorem step_unassigned {s : State} {op : Byte} (h : s.halted = false) (hi : s.fetchInstr = .unassigned op) :
    step s = .fault (.unknownOpcode op s.pc) := by
  rw [step_running h, hi, exec_unassigned]; rfl

/-- A running core that decodes anything else executes and accounts for it (R280). -/
theorem step_assigned {s : State} (h : s.halted = false) (hi : ∀ op, s.fetchInstr ≠ .unassigned op) :
    ∃ u, exec s.fetchInstr s = .next u ∧ step s = .next (u.account s.fetchOpcode) := by
  obtain ⟨u, hu⟩ := everyAssignedInstructionCompletes s.fetchInstr s hi
  exact ⟨u, hu, by rw [step_running h, hu]; rfl⟩

/-- Settles O11: by whether the core runs and whether the fetched byte is assigned. -/
theorem onlyUnassignedBytesAreFatal : Obligations.OnlyUnassignedBytesAreFatal := by
  intro s
  split
  next h =>
    obtain ⟨hrunning, hmem⟩ := h
    have hstep := step_unassigned hrunning (State.fetchInstr_eq_unassigned_iff.2 ⟨rfl, hmem⟩)
    exact ⟨hstep, by rw [State.afterStep, hstep]⟩
  next h =>
    cases hrun : s.halted with
    | true => exact ⟨s, step_halted hrun⟩
    | false =>
      obtain ⟨u, -, hstep⟩ := step_assigned hrun fun op hop => h ⟨hrun, (State.fetchInstr_eq_unassigned_iff.1 hop).2⟩
      exact ⟨_, hstep⟩

/-- Settles O12: `exec` of an unassigned byte is the fault, which accounting passes on. -/
theorem unassignedByteStops : Obligations.UnassignedByteStops :=
  fun _ _ => ⟨rfl, wellFormed_unassigned, rfl⟩

/-- Settles O15: every field of the reset state is the literal 0 but SP, and an empty array is in canonical form. -/
theorem resetState : Obligations.ResetState := by
  intro sp s
  refine ⟨fun r => ?registers, rfl, rfl, ?flagByte, rfl, rfl, rfl, fun _ => rfl, fun _ => ⟨rfl, rfl⟩, rfl, rfl, ?invariant,
    State.reset_inv⟩
  case registers => cases r <;> rfl
  case flagByte => exact (by decide : (Flags.mk false false false false false).toByte = 0x02)
  case invariant => exact State.reset_inv.of_eq rfl rfl rfl

/-- Every assigned byte's entry of the cost table is 4 to 18. -/
theorem cycleCost_bounds (op : Byte) (h : op ∉ Config.unassignedOpcodes) : 4 ≤ cycleCost op ∧ cycleCost op ≤ 18 := by
  revert op; decide

/-- Settles O19: the table read at the source's six bytes, and over all bytes for the range. -/
theorem cycleCosts : Obligations.CycleCosts :=
  ⟨rfl, rfl, rfl, rfl, rfl, rfl, cycleCost_bounds, fun _ _ _ => rfl⟩

end Sys2Proof.Machine
end

section
/-!
Runs (R287, R288): what one event keeps, and the induction over the events that makes it hold of a run.
-/
namespace Sys2Proof.Machine

/-- A property of states that every event keeps holds after a run of such events, if it held before. -/
theorem State.run_induction {motive : State → Prop} {events : List Event}
    (hafter : ∀ e ∈ events, ∀ s, motive s → motive (s.after e)) {s : State} (hs : motive s) : motive (s.run events) := by
  induction events generalizing s with
  | nil => exact hs
  | cons e rest ih =>
    rw [State.run_cons]
    exact ih (fun e' he' => hafter e' (List.mem_cons_of_mem e he')) (hafter e List.mem_cons_self s hs)

/-! The invariant -/

theorem State.Inv.afterStep {s : State} (h : s.Inv) : s.afterStep.Inv := by
  rcases s.afterStep_cases with hstep | hsame
  · exact stepKeepsInvariant s _ h hstep
  · rw [hsame]; exact h

/-- Every event keeps the canonical form: steps, and each of the host's actions. -/
theorem State.Inv.after {s : State} (h : s.Inv) (e : Event) : (s.after e).Inv := by
  cases e with
  | step => exact h.afterStep
  | load buffer base =>
    cases hload : s.load buffer base with
    | none => rw [State.after, hload]; exact h
    | some t => rw [State.after, hload]; exact h.load hload
  | input port v => exact h.writeInPort port v
  | interrupt vector => exact h.raiseInterruptWith _ vector

/-- Settles O17: every event keeps the invariant. -/
theorem runKeepsInvariant : Obligations.RunKeepsInvariant :=
  fun _ _ h => State.run_induction (fun e _ _ ht => ht.after e) h

/-! The cells a run without loads cannot reach -/

/-- No address at 0x2000 or above selects a ROM cell or a hidden one (R43, R44). -/
theorem ne_phys_of_outside_window {k : Nat} (hk : k < 0x2000 ∨ 0x4000 ≤ k) {a : Word} (ha : 0x2000 ≤ a) :
    k ≠ (phys a).toNat := by
  have hge := (phys_toNat_ge a).2 ha
  have hlt := phys_toNat_lt a
  omega

theorem State.cell_afterStep {k : Nat} (hk : k < 0x2000 ∨ 0x4000 ≤ k) (s : State) : s.afterStep.cell k = s.cell k := by
  rcases s.afterStep_cases with hstep | hsame
  · rcases step_next_cases hstep with ⟨-, hsame⟩ | ⟨-, u, hu, hacc⟩
    · rw [hsame]
    · rw [hacc, State.cell_account]
      exact memoryKeptOutsideStores _ _ _ hu k fun a _ => ne_phys_of_outside_window hk
  · rw [hsame]

theorem State.cell_raiseInterruptWith {k : Nat} (hk : k < 0x2000 ∨ 0x4000 ≤ k) (clearsIE : Bool) (s : State) (n : Fin 8) :
    (s.raiseInterruptWith clearsIE n).cell k = s.cell k := by
  rcases s.raiseInterruptWith_cases clearsIE n with e | ⟨-, -, e⟩
  · rw [e]
  · have hcell : ({ s.enterVector s.pc n with ie := !clearsIE } : State).cell k = (s.push16 s.pc).cell k := rfl
    rw [e, hcell, s.pairStored_push16 s.pc k, if_neg fun h => ne_phys_of_outside_window hk h.1 h.2,
      if_neg fun h => ne_phys_of_outside_window hk h.1 h.2]

/-- Settles O7: no step and no interrupt stores to such a cell, and an input port write stores to none. -/
theorem romAndHiddenCellsStay : Obligations.RomAndHiddenCellsStay := by
  intro s events hevents k hk
  refine State.run_induction (motive := fun t => t.cell k = s.cell k) (fun e he t ht => ?_) rfl
  cases e with
  | step => exact (t.cell_afterStep hk).trans ht
  | load buffer base => exact absurd (hevents _ he) (by simp [Event.isNotLoad])
  | input port v => exact ht
  | interrupt vector => exact (t.cell_raiseInterruptWith hk _ vector).trans ht

/-! A halted core (R281, R313, R332) -/

/-- A memory load fails or changes memory alone (R57 (a)). -/
theorem State.load_cases (s : State) (buffer : List Byte) (base : Word) :
    s.load buffer base = none ∨ ∃ mem, s.load buffer base = some { s with mem := mem } := by
  unfold State.load
  split
  · exact .inl rfl
  · exact .inr ⟨_, rfl⟩

/-- What an event does to a halted core: at most a load to memory or a write to IN_PORT. -/
theorem State.after_of_halted {s : State} (h : s.halted = true) (e : Event) :
    ∃ mem inPort, s.after e = { s with mem := mem, inPort := inPort } ∧
      (e.isNotLoad = true → mem = s.mem) ∧ (e.isNotInput = true → inPort = s.inPort) := by
  cases e with
  | step => exact ⟨s.mem, s.inPort, by rw [State.after, State.afterStep, step_halted h], fun _ => rfl, fun _ => rfl⟩
  | load buffer base =>
    rcases s.load_cases buffer base with hload | ⟨mem, hload⟩
    · exact ⟨s.mem, s.inPort, by rw [State.after, hload]; rfl, fun _ => rfl, fun _ => rfl⟩
    · exact ⟨mem, s.inPort, by rw [State.after, hload]; rfl, fun hnot => by simp [Event.isNotLoad] at hnot, fun _ => rfl⟩
  | input port v =>
    exact ⟨s.mem, _, rfl, fun _ => rfl, fun hnot => by simp [Event.isNotInput] at hnot⟩
  | interrupt vector => exact ⟨s.mem, s.inPort, if_pos h, fun _ => rfl, fun _ => rfl⟩

/-- The same of a run from a halted state, which no event of it leaves. -/
theorem State.run_of_halted {s : State} (h : s.halted = true) (events : List Event) :
    ∃ mem inPort, s.run events = { s with mem := mem, inPort := inPort } ∧
      ((∀ e ∈ events, e.isNotLoad = true) → mem = s.mem) ∧
      ((∀ e ∈ events, e.isNotInput = true) → inPort = s.inPort) := by
  induction events generalizing s with
  | nil => exact ⟨s.mem, s.inPort, rfl, fun _ => rfl, fun _ => rfl⟩
  | cons e rest ih =>
    obtain ⟨mem, inPort, hafter, hmem, hin⟩ := State.after_of_halted h e
    obtain ⟨mem', inPort', hrun, hmem', hin'⟩ := ih (s := s.after e) (by rw [hafter]; exact h)
    refine ⟨mem', inPort', by rw [State.run_cons, hrun, hafter], fun hall => ?_, fun hall => ?_⟩
    · obtain ⟨he, hrest⟩ := List.forall_mem_cons.1 hall
      rw [hmem' hrest, hafter, hmem he]
    · obtain ⟨he, hrest⟩ := List.forall_mem_cons.1 hall
      rw [hin' hrest, hafter, hin he]

/-- Settles O10: the step of a halted core, and `State.run_of_halted` clause by clause. -/
theorem haltedIsTerminal : Obligations.HaltedIsTerminal := by
  intro s h
  refine ⟨step_halted h, fun events => ?_⟩
  obtain ⟨mem, inPort, hrun, hmem, hin⟩ := State.run_of_halted h events
  rw [hrun]
  refine ⟨rfl, hmem, hin, fun hall => ?_⟩
  rw [hmem fun e he => (hall e he).1, hin fun e he => (hall e he).2]

end Sys2Proof.Machine
end

section
/-!
The reported outcome and the end of a run (R286, R287): each step reports by one of three cases; a run goes on past its
head event unless that is a step that does not report `continued`, and there it ends.
-/
namespace Sys2Proof.Machine

/-- What a step reports, by case (R286). -/
theorem State.report_cases (s : State) :
    (s.report = some .halted ∧ (s.halted = true ∨ s.fetchInstr = .hlt)) ∨
    (∃ op, s.report = some (.fatal op s.pc) ∧ s.halted = false ∧ s.fetchInstr = .unassigned op) ∨
    (s.report = some .continued ∧ s.halted = false ∧ s.fetchInstr ≠ .hlt ∧ ∀ op, s.fetchInstr ≠ .unassigned op) := by
  cases hrun : s.halted with
  | true => exact .inl ⟨by simp [State.report, step_halted hrun, hrun], .inl rfl⟩
  | false =>
    by_cases hi : ∃ op, s.fetchInstr = .unassigned op
    · obtain ⟨op, hop⟩ := hi
      exact .inr (.inl ⟨op, by simp [State.report, step_unassigned hrun hop], rfl, hop⟩)
    · obtain ⟨u, hu, hstep⟩ := step_assigned hrun (not_exists.1 hi)
      have hreport : s.report = some (if u.halted then .halted else .continued) := by
        rw [State.report, hstep]; rfl
      by_cases hhlt : s.fetchInstr = .hlt
      · have hhalted : u.halted = true := by rw [hhlt, exec_hlt] at hu; cases hu; rfl
        exact .inl ⟨by rw [hreport, if_pos hhalted], .inr hhlt⟩
      · have hrunning : u.halted = false := by rw [← State.executed_eq hu, s.executed_halted hhlt, hrun]
        exact .inr (.inr ⟨by simp [hreport, hrunning], rfl, hhlt, not_exists.1 hi⟩)

theorem State.report_eq_halted_iff (s : State) :
    s.report = some .halted ↔ s.halted = true ∨ s.fetchInstr = .hlt := by
  rcases s.report_cases with ⟨hr, h⟩ | ⟨op, hr, hrun, hi⟩ | ⟨hr, hrun, hi, -⟩
  · simp [hr, h]
  · simp [hr, hrun, hi]
  · simp [hr, hrun, hi]

theorem State.report_eq_fatal_iff (s : State) (op : Byte) (pc : Word) :
    s.report = some (.fatal op pc) ↔ s.halted = false ∧ s.fetchInstr = .unassigned op ∧ pc = s.pc := by
  rcases s.report_cases with ⟨hr, h | h⟩ | ⟨byte, hr, hrun, hi⟩ | ⟨hr, hrun, -, hi⟩
  · simp [hr, h]
  · simp [hr, h]
  · simp [hr, hrun, hi, eq_comm]
  · simp [hr, hi]

theorem State.report_eq_continued_iff (s : State) :
    s.report = some .continued ↔ s.halted = false ∧ s.fetchInstr ≠ .hlt ∧ ∀ op, s.fetchInstr ≠ .unassigned op := by
  rcases s.report_cases with ⟨hr, h | h⟩ | ⟨op, hr, hrun, hi⟩ | ⟨hr, h⟩
  · simp [hr, h]
  · simp [hr, h]
  · simp [hr, hi]
  · simp [hr, h]

/-- A run goes on past its head event, unless that is a step that does not report `continued` (R287). -/
theorem State.runToEnd_cons {s : State} {e : Event} (h : e = .step → s.report = some .continued) (rest : List Event) :
    s.runToEnd (e :: rest) = (s.after e).runToEnd rest := by
  by_cases he : e = .step
  · subst he; exact State.runToEnd_continued (h rfl) rest
  · exact State.runToEnd_action he s rest

/-- A cut run is in the state after all its events, and all its steps reported `continued`. -/
theorem State.runToEnd_cut {s t : State} {events : List Event} (h : s.runToEnd events = (.cut, t)) :
    t = s.run events ∧
      ∀ before rest, events = before ++ .step :: rest → (s.run before).report = some .continued := by
  induction events generalizing s with
  | nil => exact ⟨(Prod.mk.inj h).2.symm, fun before rest e => by simp at e⟩
  | cons e events ih =>
    have hgoes : e = .step → s.report = some .continued := by
      rintro rfl
      rcases s.report_cases with ⟨hr, -⟩ | ⟨op, hr, -⟩ | ⟨hr, -⟩
      · rw [State.runToEnd_halted hr] at h; cases h
      · rw [State.runToEnd_fatal hr] at h; cases h
      · exact hr
    rw [State.runToEnd_cons hgoes] at h
    obtain ⟨ht, hsteps⟩ := ih h
    refine ⟨ht, fun before rest hsplit => ?_⟩
    cases before with
    | nil => exact hgoes (List.cons.inj hsplit).1
    | cons e' before =>
      obtain ⟨rfl, htail⟩ := List.cons.inj hsplit
      exact hsteps before rest htail

/-- A run that is not cut ends at a step, which alone ends the run from the state before it; up to there it would be cut. -/
theorem State.runToEnd_ended {s t : State} {events : List Event} {ending : Ending} (hend : ending ≠ .cut)
    (h : s.runToEnd events = (ending, t)) :
    ∃ before rest, events = before ++ .step :: rest ∧ s.runToEnd before = (.cut, s.run before) ∧
      (s.run before).runToEnd [.step] = (ending, t) := by
  induction events generalizing s with
  | nil => exact absurd (Prod.mk.inj h).1.symm hend
  | cons e events ih =>
    by_cases hgoes : e = .step → s.report = some .continued
    · rw [State.runToEnd_cons hgoes] at h
      obtain ⟨before, rest, hsplit, hbefore, hstep⟩ := ih h
      exact ⟨e :: before, rest, by rw [hsplit]; rfl, by rw [State.runToEnd_cons hgoes, hbefore]; rfl, hstep⟩
    · obtain ⟨rfl, hnot⟩ := Classical.not_imp.1 hgoes
      refine ⟨[], events, rfl, rfl, ?_⟩
      rw [State.run_nil, ← h]
      rcases s.report_cases with ⟨hr, -⟩ | ⟨op, hr, -⟩ | ⟨hr, -⟩
      · rw [State.runToEnd_halted hr, State.runToEnd_halted hr]
      · rw [State.runToEnd_fatal hr, State.runToEnd_fatal hr]
      · exact absurd hr hnot

/-- A step that alone ends a run as halted: its report, the state after it, and the `HLT` it executed if the core ran. -/
theorem State.runToEnd_step_halted {s t : State} (h : s.runToEnd [.step] = (.halted, t)) :
    s.report = some .halted ∧ step s = .next t ∧ t.halted = true ∧
      (s.halted = false → s.fetchInstr = .hlt ∧ t.pc = s.pc + 1) := by
  rcases s.report_cases with ⟨hr, hwhy⟩ | ⟨op, hr, -⟩ | ⟨hr, -⟩
  · rw [State.runToEnd_halted hr] at h
    cases h
    cases hrun : s.halted with
    | true =>
      have hstep := step_halted hrun
      refine ⟨hr, ?_, ?_, fun hf => by cases hf⟩ <;> simp [State.afterStep, hstep, hrun]
    | false =>
      have hhlt : s.fetchInstr = .hlt := by simpa [hrun] using hwhy
      have hstep : step s = .next ((({ s with halted := true } : State).advance 1).account s.fetchOpcode) := by
        rw [step_running hrun, hhlt]; rfl
      refine ⟨hr, ?_, ?_, fun _ => ⟨hhlt, ?_⟩⟩ <;> simp [State.afterStep, hstep]
  · rw [State.runToEnd_fatal hr] at h; cases h
  · rw [State.runToEnd_continued hr] at h; cases h

/-- A step that alone ends a run as fatal: its report, and that it left the state before it, PC at the offending byte. -/
theorem State.runToEnd_step_fatal {s t : State} {op : Byte} {pc : Word} (h : s.runToEnd [.step] = (.fatal op pc, t)) :
    s.report = some (.fatal op pc) ∧ t = s ∧ t.pc = pc ∧ t.readByte t.pc = op := by
  rcases s.report_cases with ⟨hr, -⟩ | ⟨byte, hr, -, hi⟩ | ⟨hr, -⟩
  · rw [State.runToEnd_halted hr] at h; cases h
  · rw [State.runToEnd_fatal hr] at h
    cases h
    exact ⟨hr, rfl, rfl, (State.fetchInstr_eq_unassigned_iff.1 hi).1.symm⟩
  · rw [State.runToEnd_continued hr] at h; cases h

/-- Settles O14: the three reports, and the end of a run by its ending. -/
theorem reportedOutcome : Obligations.ReportedOutcome := by
  refine ⟨fun s => ⟨s.report_eq_halted_iff, s.report_eq_fatal_iff, s.report_eq_continued_iff⟩, fun s events => ?_⟩
  rcases h : s.runToEnd events with ⟨ending, t⟩
  cases ending with
  | cut => exact State.runToEnd_cut h
  | halted =>
    obtain ⟨before, rest, hsplit, hbefore, hstep⟩ := State.runToEnd_ended (by simp) h
    exact ⟨before, rest, hsplit, hbefore, State.runToEnd_step_halted hstep⟩
  | fatal op pc =>
    obtain ⟨before, rest, hsplit, hbefore, hstep⟩ := State.runToEnd_ended (by simp) h
    exact ⟨before, rest, hsplit, hbefore, State.runToEnd_step_fatal hstep⟩

end Sys2Proof.Machine
end

section
/-!
The data transfer group (43_data_transfer.md): each instruction is a register, pair or memory write and a move of PC, so
its result is read off the law of that write.
-/
namespace Sys2Proof.Machine

/-- A register write and a move of PC change no part of the state but registers and PC. -/
theorem State.sameButRegsAndPC_writeReg (s : State) (r : Reg) (v : Byte) (len : Word) :
    SameButRegsAndPC s ((s.writeReg r v).advance len) := by
  cases r <;> rfl

/-- Settles O29: `MOV r1,r2` is a register write (R180). -/
theorem moveBetweenRegisters : Obligations.MoveBetweenRegisters :=
  fun dst src s => ⟨encode_mov dst src, _, exec_mov dst src s, congrArg (· + 1) (s.writeReg_pc dst _),
    fun r => by simp, s.sameButRegsAndPC_writeReg dst _ 1⟩

/-- Settles O30: `MOV r,M` is a register write, `MOV M,r` a byte store at H:L (R181, R182). -/
theorem moveThroughHL : Obligations.MoveThroughHL := by
  intro r s
  refine ⟨encode_movFromM r, encode_movToM r, ⟨_, exec_movFromM r s, ?pc, fun q => ?registers,
      s.sameButRegsAndPC_writeReg r _ 1⟩,
    _, exec_movToM r s, (s.agrees_writeByte s.hl _).advance 1, s.cell_writeByte s.hl _⟩
  case pc => simp
  case registers => simp [State.readSlot, State.hl]

/-- Settles O31: `MVI` is a slot write, `LXI` a pair write whose halves are the two operand bytes (R183 to R185). -/
theorem loadImmediates : Obligations.LoadImmediates := by
  intro s
  refine ⟨fun r v => ⟨encode_mvi (.reg r) v, _, exec_mvi (.reg r) v s, ?pc, fun q => ?registers,
      s.sameButRegsAndPC_writeReg r v 2⟩,
    fun v => ⟨encode_mvi .m v, _, exec_mvi .m v s, (s.agrees_writeByte s.hl v).advance 2, s.cell_writeByte s.hl v⟩,
    fun lo hi => ⟨fun p => ?encoding, ?bc, ?de, ?hl, exec_lxi .sp _ s⟩⟩
  case pc => simp
  case registers => simp [State.writeSlot]
  case encoding => rw [encode_lxi, withWord_joinBytes]
  case bc => rw [exec_lxi, State.loadPairImm, State.writePair, State.setBC, highByte_joinBytes, lowByte_joinBytes]; rfl
  case de => rw [exec_lxi, State.loadPairImm, State.writePair, State.setDE, highByte_joinBytes, lowByte_joinBytes]; rfl
  case hl => rw [exec_lxi, State.loadPairImm, State.writePair, State.setHL, highByte_joinBytes, lowByte_joinBytes]; rfl

/-- Settles O33: `LHLD` is a word read into HL, `SHLD` a word store of HL, `XCHG` a swap (R188, R189, R192). -/
theorem pairLoadsStoresAndExchange : Obligations.PairLoadsStoresAndExchange := by
  intro s
  refine ⟨fun lo hi => ⟨withWord_joinBytes 0x2A hi lo, withWord_joinBytes 0x22 hi lo⟩, rfl,
    fun a => ⟨?lhld, _, exec_shld a s, (s.agrees_writeWord a s.hl).advance 3, ?stored⟩, rfl⟩
  case lhld => rw [exec_lhld, State.loadHL, State.readWord, State.setHL, highByte_joinBytes, lowByte_joinBytes]; rfl
  case stored =>
    have h := s.pairStored_writeWord a s.hl
    rwa [State.hl, highByte_joinBytes, lowByte_joinBytes] at h

end Sys2Proof.Machine
end

section
/-!
The arithmetic group (40_flag_helpers.md, 41_arithmetic.md): the laws of the adder and the subtracter over all bytes, the
instructions as those at the accumulator, and decimal adjustment as one correction.
-/
namespace Sys2Proof.Machine

/-- The complement of a byte, as a number. -/
theorem toNat_not_byte (v : Byte) : (~~~v).toNat = 255 - v.toNat := by
  rw [BitVec.toNat_not]

/-- Subtraction with borrow is addition of the complement with the complementary carry (R112). -/
theorem sub_sub_eq_add_not (a v : Byte) (c : Bool) :
    a - v - BitVec.ofNat 8 c.toNat = a + ~~~v + BitVec.ofNat 8 (!c).toNat := by
  have hnot : ~~~v = -v - 1 := eq_sub_of_add_eq (BitVec.neg_eq_not_add v).symm
  rw [hnot]
  cases c with
  | false => exact (by ring : a - v - 0 = a + (-v - 1) + 1)
  | true => exact (by ring : a - v - 1 = a + (-v - 1) + 0)

/-- Settles O28: `add8_eq` and `sub8_eq`; the carries by the complement's value. -/
theorem adderLaws : Obligations.AdderLaws := by
  intro a v c f
  have hr := sub_sub_eq_add_not a v c
  have ha := a.isLt
  have hv := v.isLt
  have hnot := toNat_not_byte v
  have hc : c.toNat + (!c).toNat = 1 := by cases c <;> rfl
  refine ⟨by rw [add8_eq], by rw [sub8_eq], by rw [sub8_eq, add8_eq]; exact hr, ?complement, ?self, ?zero⟩
  case complement =>
    rw [sub8_eq, add8_eq, hr, hnot]
    have hcy : decide (a.toNat < v.toNat + c.toNat) = !decide (0xFF < a.toNat + (255 - v.toNat) + (!c).toNat) := by
      rw [← decide_not, decide_eq_decide]; omega
    have hac : decide (v.toNat % 16 + c.toNat ≤ a.toNat % 16) =
        decide (0x0F < a.toNat % 16 + (255 - v.toNat) % 16 + (!c).toNat) := by
      rw [decide_eq_decide]; omega
    rw [hcy, hac]
    rfl
  case self =>
    rw [sub8_eq]
    simp [flagsOf]
    decide
  case zero => 
    have hcy : ¬0xFF < a.toNat := by omega
    have hac : ¬0x0F < a.toNat % 16 := by omega
    simp [add8_eq, hcy, hac]

/-! The instructions -/

/-- Settles O34: `add8_eq` with the carry-in 0. -/
theorem addResult : Obligations.AddResult := by
  intro s sum
  have hsum (v : Byte) (len : Word) : s.addAcc v len = sum v len := by
    simp only [State.addAcc, add8_eq, Bool.toNat_false, BitVec.add_zero, Nat.add_zero]; rfl
  exact ⟨fun x => ⟨encode_add x, by rw [exec_add, hsum]⟩, fun v => ⟨rfl, by rw [exec_adi, hsum]⟩⟩

/-- Settles O35: `add8_eq` with the old CY as the carry-in. -/
theorem addWithCarryResult : Obligations.AddWithCarryResult := by
  intro s c sum
  have hc : s.flags.cy.toNat = c := Bool.cond_eq_ite ..
  have hsum (v : Byte) (len : Word) : s.adcAcc v len = sum v len := by
    simp only [State.adcAcc, add8_eq, hc]; rfl
  exact ⟨fun x => ⟨encode_adc x, by rw [exec_adc, hsum]⟩, fun v => ⟨rfl, by rw [exec_aci, hsum]⟩⟩

/-- Settles O36: `sub8_eq` with the borrow-in 0 and with the old CY. -/
theorem subtractResult : Obligations.SubtractResult := by
  intro s diff c
  have hc : s.flags.cy.toNat = c := Bool.cond_eq_ite ..
  have hsub (v : Byte) (len : Word) : s.subAcc v len = diff v 0 len := by
    simp only [State.subAcc, sub8_eq]; rfl
  have hsbb (v : Byte) (len : Word) : s.sbbAcc v len = diff v c len := by
    simp only [State.sbbAcc, sub8_eq, hc]; rfl
  exact ⟨fun x => ⟨encode_sub x, by rw [exec_sub, hsub], encode_sbb x, by rw [exec_sbb, hsbb]⟩,
    fun v => ⟨rfl, by rw [exec_sui, hsub], rfl, by rw [exec_sbi, hsbb]⟩⟩

/-- The flags a comparison leaves: Z says equal and CY says below (R128). -/
theorem sub8_flags_eq (a v : Byte) (f : Flags) :
    (sub8 a v false f).2 =
      { z := decide (a = v), s := (a - v).msb, p := parity (a - v), cy := decide (a < v),
        ac := decide (v.toNat % 16 ≤ a.toNat % 16) } := by
  have hz : (a - v == 0) = decide (a = v) := by rw [beq_eq_decide, decide_eq_decide, sub_eq_zero]
  simp only [sub8_eq, Bool.toNat_false, BitVec.sub_zero, Nat.add_zero, flagsOf, hz]; rfl

/-- Settles O37: the flags by `sub8_flags_eq`, which asks A and the operand alone, so a `SUB` after finds the same. -/
theorem compareResult : Obligations.CompareResult := by
  intro s cmp
  have hcmp (v : Byte) (len : Word) : s.cmpAcc v len = cmp v len := by
    simp only [State.cmpAcc, sub8_flags_eq]; rfl
  refine ⟨fun v => ⟨rfl, by rw [exec_cpi, hcmp]⟩,
    fun x => ⟨encode_cmp x, by rw [exec_cmp, hcmp], _, _, exec_sub x _, exec_sub x s, ?_⟩⟩
  have hslot : (cmp (s.readSlot x) 1).readSlot x = s.readSlot x := by
    cases x with
    | reg r => cases r <;> rfl
    | m => rfl
  rw [hslot]
  refine ⟨?sub, ?cmp, ?a⟩
  case sub => exact (sub8_flags_eq ..).trans (sub8_flags_eq ..).symm
  case cmp => exact sub8_flags_eq ..
  case a => rfl

theorem State.readReg_flagDecrement (s : State) (v : Byte) (q : Reg) : (s.flagDecrement v).readReg q = s.readReg q := by
  cases q <;> rfl

/-- Settles O39: a decrement is a slot write (`State.decSlot_eq`), in a register or at H:L. -/
theorem decrementResult : Obligations.DecrementResult := by
  intro s flags
  refine ⟨fun r => ⟨encode_dcr (.reg r), _, exec_dcr (.reg r) s, ?pc, ?flags, fun q => ?registers, ?frame⟩,
    encode_dcr .m, _, exec_dcr .m s, ?agrees, ?stored⟩
  case pc => rw [State.decSlot_eq, State.writeSlot_pc]; rfl
  case flags => rw [State.decSlot_eq, State.writeSlot_flags]; rfl
  case registers =>
    simp only [State.decSlot_eq, State.writeSlot, State.readReg_writeReg, State.readReg_flagDecrement, State.readSlot]
  case frame => cases r <;> rfl
  case agrees => rw [State.decSlot_eq]; exact State.agrees_writeByte ..
  case stored => intro k; rw [State.decSlot_eq]; exact State.cell_writeByte ..

/-- Settles O40: the pair written out is `State.readPair`, and what is put in it `State.writePair`. -/
theorem pairArithmetic : Obligations.PairArithmetic := by
  intro p s old put
  have hold : s.readPair p = old := by cases p <;> rfl
  have hput (w : Word) : (s.writePair p w).advance 1 = put w := by cases p <;> rfl
  refine ⟨encode_inx p, encode_dcx p, encode_dad p, ?inx, ?dcx, ?dad⟩
  case inx => rw [exec_inx, State.incPair, hput, hold]
  case dcx => rw [exec_dcx, State.decPair, hput, hold]
  case dad =>
    rw [exec_dad, State.addPairToHL, hold, BitVec.ofNat_add, BitVec.ofNat_toNat, BitVec.ofNat_toNat, BitVec.setWidth_eq,
      BitVec.setWidth_eq]
    rfl

/-! Decimal adjustment -/

/-- `DAA`'s high correction, asked of the byte `t` that the low one leaves, comes out as a question about A as it was. -/
theorem decimal_high_eq {a t : Nat} {low cy : Bool} (ha : a < 256) (hlow : 9 < a % 16 → low = true)
    (ht : t = if low then a + 0x06 else a) :
    (decide (t % 256 / 16 > 9) || (cy || decide (t > 0xFF))) = (decide (0x99 < a) || cy) := by
  cases cy with
  | true => simp
  | false =>
    rw [Bool.eq_iff_iff]
    cases low with
    | false => simp at hlow ht ⊢; omega
    | true => simp at ht ⊢; omega

/-- `DAA` leaves CY set exactly when the high correction was made: it carries whenever CY did not ask for it. -/
theorem decimal_carry_eq {a t : Nat} {low cy : Bool} (ha : a < 256) (hlow : 9 < a % 16 → low = true)
    (ht : t = if low then a + 0x06 else a) :
    (cy || decide (t > 0xFF) ||
      decide ((if decide (0x99 < a) || cy then t % 256 + 0x60 else t % 256) > 0xFF)) = (decide (0x99 < a) || cy) := by
  cases cy with
  | true => simp
  | false =>
    rw [Bool.eq_iff_iff]
    cases low with
    | false => simp at hlow ht ⊢; split <;> omega
    | true => simp at ht ⊢; split <;> omega

/-- Decimal adjustment as one correction chosen from A, CY and AC as they were (R135). -/
theorem daa8_eq (a : Byte) (f : Flags) :
    let low : Bool := decide (9 < a.toNat % 16) || f.ac
    let high : Bool := decide (0x99 < a.toNat) || f.cy
    let r : Byte := a + (if low then 0x06 else 0) + (if high then 0x60 else 0)
    daa8 a f = (r, flagsOf r high (low && decide (9 < a.toNat % 16))) := by
  intro low high r
  have ha : a.toNat < 256 := a.isLt
  have hask : 9 < a.toNat % 16 → low = true := fun h => by simp [low, h]
  have hlow : (decide (lowNibble a > 9) || f.ac) = low := rfl
  have hac : decide (lowNibble a + 6 > 0x0F) = decide (9 < a.toNat % 16) := by
    rw [decide_eq_decide, lowNibble]; omega
  have hsum : BitVec.ofNat 8 (if high then (if low then a.toNat + 0x06 else a.toNat) % 256 + 0x60
      else (if low then a.toNat + 0x06 else a.toNat) % 256) = r := by
    apply BitVec.eq_of_toNat_eq
    simp only [r]
    split <;> split <;> simp
    all_goals omega
  simp only [daa8, hlow, hac, decimal_high_eq ha hask rfl, decimal_carry_eq ha hask rfl]
  rw [hsum, Flags.setZSP_eq]

/-- Settles O41: `daa8_eq` at the accumulator. -/
theorem decimalAdjustResult : Obligations.DecimalAdjustResult := by
  intro s low high r
  refine ⟨rfl, ?_⟩
  rw [exec_daa, daa8_eq]
  rfl

/-- The packed decimal byte as a number. -/
theorem toNat_packedDecimal {n : Nat} (hn : n < 100) : (packedDecimal n).toNat = 16 * (n / 10) + n % 10 := by
  rw [packedDecimal, BitVec.toNat_ofNat]; omega

/-- Packing a number given by its digits. -/
theorem packed_digits {n tens ones : Nat} (hn : n = 10 * tens + ones) (h : ones < 10) :
    16 * (n / 10) + n % 10 = 16 * tens + ones := by
  omega

/-- Correcting the byte with digit sums `h` and `l` (tens and ones): 6 carries the ones' ten over, 0x60 drops the hundred. -/
theorem corrected_digits {h l : Nat} (hh : h ≤ 18) (hl : l ≤ 19) :
    (16 * h + l + (if 9 < l then 0x06 else 0) + (if 100 ≤ 10 * h + l then 0x60 else 0)) % 256 =
      16 * ((10 * h + l) % 100 / 10) + (10 * h + l) % 100 % 10 := by
  by_cases hones : 9 < l <;> by_cases hhundred : 100 ≤ 10 * h + l
  · rw [if_pos hones, if_pos hhundred, packed_digits (tens := h + 1 - 10) (ones := l - 10) (by omega) (by omega)]; omega
  · rw [if_pos hones, if_neg hhundred, packed_digits (tens := h + 1) (ones := l - 10) (by omega) (by omega)]; omega
  · rw [if_neg hones, if_pos hhundred, packed_digits (tens := h - 10) (ones := l) (by omega) (by omega)]; omega
  · rw [if_neg hones, if_neg hhundred, packed_digits (tens := h) (ones := l) (by omega) (by omega)]; omega

/-- Adjusting the sum of two packed decimal numbers and a carry gives their packed decimal sum and its carry. -/
theorem daa8_add8_packedDecimal {x y : Nat} (hx : x < 100) (hy : y < 100) (c : Bool) (f : Flags) :
    let sum := add8 (packedDecimal x) (packedDecimal y) c f
    let n := x + y + c.toNat
    (daa8 sum.1 sum.2).1 = packedDecimal (n % 100) ∧ (daa8 sum.1 sum.2).2.cy = decide (100 ≤ n) := by
  intro sum n
  have hc : c.toNat ≤ 1 := Bool.toNat_le c
  have hpx := toNat_packedDecimal hx
  have hpy := toNat_packedDecimal hy
  -- the sums of the tens and of the ones
  obtain ⟨h, hh⟩ : ∃ h, h = x / 10 + y / 10 := ⟨_, rfl⟩
  obtain ⟨l, hl⟩ : ∃ l, l = x % 10 + y % 10 + c.toNat := ⟨_, rfl⟩
  have hn : n = 10 * h + l := by omega
  have hbyte : (packedDecimal x + packedDecimal y + BitVec.ofNat 8 c.toNat).toNat = (16 * h + l) % 256 := by
    simp only [BitVec.toNat_add, BitVec.toNat_ofNat, hpx, hpy]; omega
  have hlow : (decide (9 < (16 * h + l) % 256 % 16) ||
      decide (0x0F < (packedDecimal x).toNat % 16 + (packedDecimal y).toNat % 16 + c.toNat)) = decide (9 < l) := by
    rw [← Bool.decide_or, decide_eq_decide]; omega
  have hhigh : (decide (0x99 < (16 * h + l) % 256) ||
      decide (0xFF < (packedDecimal x).toNat + (packedDecimal y).toNat + c.toNat)) = decide (100 ≤ 10 * h + l) := by
    rw [← Bool.decide_or, decide_eq_decide]; omega
  simp only [sum, add8_eq, daa8_eq, flagsOf, hbyte, hlow, hhigh, hn, decide_eq_true_eq, and_true]
  apply BitVec.eq_of_toNat_eq
  rw [toNat_packedDecimal (Nat.mod_lt _ (by decide)), ← corrected_digits (by omega) (by omega), BitVec.toNat_add,
    BitVec.toNat_add, hbyte]
  split <;> split <;> simp

/-- Settles O42: `ACI` is the adder with the old CY, `DAA` adjusts what it leaves. -/
theorem decimalAddition : Obligations.DecimalAddition := by
  intro x y s hx hy ha n
  have h := daa8_add8_packedDecimal hx hy s.flags.cy s.flags
  rw [show s.flags.cy.toNat = if s.flags.cy then 1 else 0 from Bool.cond_eq_ite .., ← ha] at h
  exact ⟨_, _, exec_aci _ s, exec_daa _, h⟩

end Sys2Proof.Machine
end

section
/-!
The logical group (42_logical_rotate.md): the three operations at the accumulator, and the rotates bit by bit.
-/
namespace Sys2Proof.Machine

/-- Settles O43: `Logic8` for the exclusive or (R151, R154), which of A with itself is 0. -/
theorem exclusiveOrResult : Obligations.ExclusiveOrResult := by
  intro s
  have hxor (v : Byte) (len : Word) : s.logicAcc .xor v len =
      { s with a := s.a ^^^ v, pc := s.pc + len, flags := flagsOf (s.a ^^^ v) false false } := by
    simp only [State.logicAcc, logic8, Flags.setZSP_eq]; rfl
  refine ⟨fun x => ⟨encode_xra x, by rw [exec_xra, hxor]⟩, fun v => ⟨rfl, by rw [exec_xri, hxor]⟩, ?_⟩
  rw [exec_xra, hxor, State.readSlot, State.readReg, BitVec.xor_self]
  rfl

/-- Settles O44: `Logic8` for the and and the or; AC of the and is bit 3 of the or (R150, R152, R153, R155). -/
theorem andOrResult : Obligations.AndOrResult := by
  intro s both either
  have hand (v : Byte) (len : Word) : s.logicAcc .and v len = both v len := by
    simp only [State.logicAcc, logic8, Flags.setZSP_eq, BitVec.getLsbD_or]; rfl
  have hor (v : Byte) (len : Word) : s.logicAcc .or v len = either v len := by
    simp only [State.logicAcc, logic8, Flags.setZSP_eq]; rfl
  exact ⟨fun x => ⟨encode_ana x, by rw [exec_ana, hand], encode_ora x, by rw [exec_ora, hor]⟩,
    fun v => ⟨rfl, by rw [exec_ani, hand], rfl, by rw [exec_ori, hor]⟩⟩

/-- Settles O45: complementing is the exclusive or with 0xFF; the other two are `State.setCarry`. -/
theorem complementAndCarry : Obligations.ComplementAndCarry := by
  intro s
  have hnot : s.a ^^^ 0xFF = ~~~s.a := by rw [BitVec.xor_comm, BitVec.not_def]; rfl
  exact ⟨rfl, rfl, rfl, by rw [hnot]; rfl, rfl, rfl⟩

theorem rotLeft_eq (a : Byte) : rotLeft a = (a.rotateLeft 1, a.getLsbD 7) := by
  rw [rotLeft, Prod.mk.injEq]
  refine ⟨?_, rfl⟩
  ext i hi
  interval_cases i <;> simp [BitVec.getElem_rotateLeft]

theorem rotRight_eq (a : Byte) : rotRight a = (a.rotateRight 1, a.getLsbD 0) := by
  rw [rotRight, Prod.mk.injEq]
  refine ⟨?_, rfl⟩
  ext i hi
  interval_cases i <;> simp [BitVec.getElem_rotateRight]

/-- The nine bits of CY over A, through which `RAL` and `RAR` rotate (R162, R163). -/
def carryOver (cy : Bool) (a : Byte) : BitVec 9 := BitVec.ofBool cy ++ a

@[simp] theorem getElem_carryOver (cy : Bool) (a : Byte) {i : Nat} (hi : i < 9) :
    (carryOver cy a)[i] = if h : i < 8 then a[i] else cy := by
  have happend : (carryOver cy a)[i] = if h : i < 8 then a[i] else (BitVec.ofBool cy)[i - 8] := BitVec.getElem_append hi
  rw [happend]
  split
  · rfl
  · simp

/-- `RAL` rotates the nine bits of CY over A to the left (R162). -/
theorem rotLeftCarry_eq (a : Byte) (cy : Bool) :
    let nine := carryOver cy a
    rotLeftCarry a cy = ((nine.rotateLeft 1).setWidth 8, (nine.rotateLeft 1).getLsbD 8) := by
  intro nine
  rw [rotLeftCarry, Prod.mk.injEq]
  constructor
  · ext i hi
    interval_cases i <;> simp [nine]
  · simp [nine]

/-- `RAR` rotates the nine bits of CY over A to the right (R163). -/
theorem rotRightCarry_eq (a : Byte) (cy : Bool) :
    let nine := carryOver cy a
    rotRightCarry a cy = ((nine.rotateRight 1).setWidth 8, (nine.rotateRight 1).getLsbD 8) := by
  intro nine
  rw [rotRightCarry, Prod.mk.injEq]
  constructor
  · ext i hi
    interval_cases i <;> simp [nine]
  · simp [nine]

/-- Settles O46: each rotate puts its byte in A and the bit rotated out in CY. -/
theorem rotates : Obligations.Rotates := by
  intro s put nine
  refine ⟨rfl, rfl, rfl, rfl, ?rlc, ?rrc, ?ral, ?rar⟩
  case rlc => rw [exec_rlc, rotLeft_eq]; rfl
  case rrc => rw [exec_rrc, rotRight_eq]; rfl
  case ral => rw [exec_ral, rotLeftCarry_eq]; rfl
  case rar => rw [exec_rar, rotRightCarry_eq]; rfl

end Sys2Proof.Machine
end

section
/-!
The stack group (44_stack.md): a push as two byte stores, a pop as a word read, and what a pop finds after a push.
-/
namespace Sys2Proof.Machine

/-- Settles O47: `PUSH` is `Push16` of the pair and a move of PC (R210, R213, R214). -/
theorem pushResult : Obligations.PushResult := by
  intro p s pair
  refine ⟨encode_push p, _, exec_push p s, (s.agrees_push16 _).advance 1, ?_⟩
  have hhigh : highByte (s.readStackPair p) = pair.1 := by cases p <;> exact highByte_joinBytes ..
  have hlow : lowByte (s.readStackPair p) = pair.2 := by cases p <;> exact lowByte_joinBytes ..
  rw [← hhigh, ← hlow]
  exact s.pairStored_push16 _

/-- Settles O48: `POP` is a word read at SP, its halves written to the pair (R211, R215, R216). -/
theorem popResult : Obligations.PopResult := by
  intro p s lo hi up
  refine ⟨encode_pop p, ?_⟩
  have hhigh : highByte (s.readWord s.sp) = hi := highByte_joinBytes ..
  have hlow : lowByte (s.readWord s.sp) = lo := lowByte_joinBytes ..
  cases p <;> rw [exec_pop, State.popPair, State.pop16_eq, ← hhigh, ← hlow] <;> rfl

/-- A pair holds again what was read from it when that is written back; the flags by their byte (R22, R215). -/
theorem State.writeStackPair_readStackPair (s : State) (p : StackPair) :
    s.writeStackPair p (s.readStackPair p) = s := by
  cases p <;>
    simp only [State.writeStackPair, State.readStackPair, State.bc, State.de, State.hl, State.setBC, State.setDE,
      State.setHL, highByte_joinBytes, lowByte_joinBytes, Flags.ofByte_toByte]

/-- A pop after a push of one pair, where neither byte was dropped, gives back everything but memory and PC (R219). -/
theorem State.agrees_popPair_pushPair (s : State) (p : StackPair) (h1 : 0x2000 ≤ s.sp - 1) (h2 : 0x2000 ≤ s.sp - 2) :
    AgreesOffMemory ((s.pushPair p).popPair p) { s with pc := s.pc + 2 } := by
  have hword : (s.pushPair p).readWord (s.pushPair p).sp = s.readStackPair p := by
    rw [State.pushPair_eq, State.advance_sp, State.push16_sp]
    exact State.readWord_push16 h1 h2 rfl
  have hsp : s.sp - 2 + 2 = s.sp := sub_add_cancel ..
  have hpc : s.pc + 1 + 1 = s.pc + 2 := add_assoc ..
  -- what the pop starts from: `s` again but for memory and PC
  let u : State := { s with pc := s.pc + 1, mem := (s.pushPair p).mem }
  have hu : { s.pushPair p with sp := (s.pushPair p).sp + 2 } = u :=
    (congrArg (fun t : State => { t with sp := t.sp + 2, mem := (s.pushPair p).mem })
      ((s.agrees_push16 (s.readStackPair p)).advance 1)).trans
      (congrArg (fun sp => { u with sp := sp }) hsp)
  have hread : s.readStackPair p = u.readStackPair p := by cases p <;> rfl
  rw [State.popPair_eq, hword, hu, hread, State.writeStackPair_readStackPair]
  exact congrArg (fun pc => { s with pc := pc }) hpc

/-- Settles O49: the pop changes no memory, so the cells are the push's; in the window it finds what was pushed. -/
theorem pushThenPop : Obligations.PushThenPop := by
  intro p s pair
  obtain ⟨-, t, ht, -, hstored⟩ := pushResult p s
  rw [exec_push] at ht
  cases ht
  refine ⟨_, _, exec_push p s, exec_pop p _, ?sp, fun k => ?cells, s.agrees_popPair_pushPair p⟩
  case sp => simp
  case cells => rw [← hstored k]; simp [State.cell]

/-- Settles O50: `XTHL` reads the word at SP and stores HL there, `SPHL` copies HL (R217, R218). -/
theorem stackTopExchangeAndLoad : Obligations.StackTopExchangeAndLoad := by
  intro s
  refine ⟨rfl, rfl, ⟨_, exec_xthl s, ?agrees, ?stored⟩, rfl⟩
  case agrees =>
    have hhigh : highByte (s.readWord s.sp) = s.readByte (s.sp + 1) := highByte_joinBytes ..
    have hlow : lowByte (s.readWord s.sp) = s.readByte s.sp := lowByte_joinBytes ..
    rw [State.exchangeTop, State.setHL, hhigh, hlow, State.writeWord_eq]
    rfl
  case stored =>
    have h := s.pairStored_writeWord s.sp s.hl
    rwa [State.hl, highByte_joinBytes, lowByte_joinBytes] at h

end Sys2Proof.Machine
end

section
/-!
The control transfer group (45_branch.md) and interrupts (60_exceptions.md): calls, restarts and accepted interrupts push
a return address and go to a target; a return undoes the push.
-/
namespace Sys2Proof.Machine

/-- Settles O51: the condition by its code's bits, and PC by the condition (R231 to R233, R239). -/
theorem jumpResult : Obligations.JumpResult := by
  intro cond w s flag taken
  have htaken : condHolds cond s.flags = taken := by
    cases cond <;> simp [taken, flag, condHolds, Cond.code]
  refine ⟨rfl, encode_jccc cond w, rfl, htaken, rfl, ?jccc, rfl⟩
  case jccc =>
    rw [exec_jccc, State.jumpIf, htaken]
    cases taken <;> rfl

/-- A call changes memory, SP and PC, and nothing else (R234). -/
theorem State.agrees_callTo (s : State) (ret target : Word) :
    AgreesOffMemory (s.callTo ret target) { s with sp := s.sp - 2, pc := target } :=
  congrArg (fun t : State => t.jumpTo target) (s.agrees_push16 ret)

/-- A call stores its return address below SP (R234). -/
theorem State.pairStored_callTo (s : State) (ret target : Word) :
    PairStored s (s.callTo ret target) (s.sp - 2) (lowByte ret) (highByte ret) :=
  s.pairStored_push16 ret

/-- Settles O52: `CALL` and a taken `Cccc` are the call to the target with the return address past them (R234, R235). -/
theorem callResult : Obligations.CallResult := by
  intro cond w s called
  have hcalled : called (s.callTo (s.pc + 3) w) := ⟨s.agrees_callTo _ _, s.pairStored_callTo _ _⟩
  refine ⟨rfl, encode_cccc cond w, ⟨_, exec_call w s, hcalled⟩, _, exec_cccc cond w s, ?_⟩
  rw [State.callIf]
  split
  · exact hcalled
  · rfl

/-- Settles O53: `RET` and a taken `Rccc` are a pop into PC (R236, R237). -/
theorem returnResult : Obligations.ReturnResult :=
  fun cond s => ⟨rfl, encode_rccc cond, rfl, exec_rccc cond s⟩

/-- Settles O54: `RST n` is the call to its vector with the return address past it (R238). -/
theorem restartResult : Obligations.RestartResult := by
  intro n s
  refine ⟨encode_rst n, _, exec_rst n s, ?_, s.pairStored_callTo _ _⟩
  rw [← vectorAddress_eq]
  exact s.agrees_callTo _ _

/-- An interrupt is dropped when halted or disabled (R312, R313). -/
theorem State.raiseInterruptWith_dropped {s : State} (h : s.halted = true ∨ s.ie = false) (clearsIE : Bool) (n : Fin 8) :
    s.raiseInterruptWith clearsIE n = s := by
  rcases s.raiseInterruptWith_cases clearsIE n with hs | ⟨hrun, hie, -⟩
  · exact hs
  · simp [hrun, hie] at h

/-- An interrupt that is not dropped and leaves IE alone enters its vector, and that is all (R311). -/
theorem State.raiseInterruptWith_false {s : State} (hrun : s.halted = false) (hie : s.ie = true) (n : Fin 8) :
    s.raiseInterruptWith false n = s.enterVector s.pc n := by
  simp [State.raiseInterruptWith, hrun, hie]

/-- An interrupt that is not dropped and clears IE enters its vector with IE clear (R311). -/
theorem State.raiseInterruptWith_true {s : State} (hrun : s.halted = false) (hie : s.ie = true) (n : Fin 8) :
    s.raiseInterruptWith true n = { s.enterVector s.pc n with ie := false } := by
  simp [State.raiseInterruptWith, hrun, hie]

/-- Settles O59: dropped, or the call to the vector with the return address PC; the parameter decides IE alone. -/
theorem interruptDelivery : Obligations.InterruptDelivery := by
  intro clearsIE s n
  refine ⟨fun h => State.raiseInterruptWith_dropped h clearsIE n, fun hrun hie => ?accepted⟩
  case accepted =>
    rw [← vectorAddress_eq]
    have hagrees := s.agrees_callTo s.pc (vectorAddress n)
    cases clearsIE with
    | false =>
      rw [State.raiseInterruptWith_false hrun hie, Bool.not_false, ← hie]
      exact ⟨hagrees, s.pairStored_callTo _ _⟩
    | true =>
      rw [State.raiseInterruptWith_true hrun hie]
      have hcleared := congrArg (fun t : State => { t with ie := false }) hagrees
      exact ⟨hcleared, s.pairStored_callTo s.pc (vectorAddress n)⟩

/-- A return after a call, where neither byte of the return address was dropped, resumes at it with all but memory as
before (R219, R236). -/
theorem State.agrees_returnFrom_callTo {s : State} (h1 : 0x2000 ≤ s.sp - 1) (h2 : 0x2000 ≤ s.sp - 2) (ret target : Word) :
    AgreesOffMemory (s.callTo ret target).returnFrom { s with pc := ret } := by
  have hword : (s.callTo ret target).readWord (s.callTo ret target).sp = ret := by
    rw [State.callTo_sp]
    exact State.readWord_push16 h1 h2 rfl
  have hsp : s.sp - 2 + 2 = s.sp := sub_add_cancel ..
  rw [State.returnFrom, State.pop16_eq, hword]
  have hreturned := congrArg (fun t : State => { t with sp := t.sp + 2, pc := ret }) (s.agrees_callTo ret target)
  exact hreturned.trans (congrArg (fun sp => { s with sp := sp, pc := ret }) hsp)

/-- Settles O55: `CALL`, `RST` and an accepted interrupt are calls, and a return writes no memory. -/
theorem returnResumesCaller : Obligations.ReturnResumesCaller := by
  intro s h1 h2 resumed
  have hresumed (ret target : Word) : resumed (s.callTo ret target).returnFrom ret :=
    ⟨State.agrees_returnFrom_callTo h1 h2 ret target,
      fun k => (State.cell_returnFrom _ k).trans (s.pairStored_callTo ret target k)⟩
  refine ⟨fun w => ⟨_, _, exec_call w s, exec_ret _, hresumed (s.pc + 3) w⟩,
    fun n => ⟨_, _, exec_rst n s, exec_ret _, hresumed (s.pc + 1) (vectorAddress n)⟩,
    fun n => ⟨_, exec_ret _, fun hrun hie => ?_⟩⟩
  rw [State.raiseInterruptWith_false hrun hie]
  exact hresumed s.pc (vectorAddress n)

end Sys2Proof.Machine
end

section
/-!
Control, ports and their hooks (46_control_io.md).
-/
namespace Sys2Proof.Machine

/-- Settles O56: both are an advance of PC, `DI` with IE clear. -/
theorem nopAndDisable : Obligations.NopAndDisable :=
  fun s => ⟨rfl, rfl, exec_nop s, exec_di s⟩

/-- Settles O57: after `EI` an interrupt is accepted by a running core, after `HLT` it is dropped (R261, R262). -/
theorem enableAndHalt : Obligations.EnableAndHalt := by
  intro s n
  refine ⟨rfl, rfl, ⟨_, exec_ei s, rfl, fun hrun => ?accepted⟩, _, exec_hlt s, rfl, ?dropped⟩
  case accepted =>
    rw [← vectorAddress_eq]
    exact congrArg State.pc
      (State.raiseInterruptWith_false (s := { s with ie := true, pc := s.pc + 1 }) hrun rfl n)
  case dropped => exact State.raiseInterruptWith_dropped (.inl rfl) _ n

/-- A write of an entry of a port bank is read back at that entry alone. -/
theorem State.readOutPort_writeOutPort (s : State) (p q v : Byte) :
    (s.writeOutPort p v).readOutPort q = if q = p then v else s.readOutPort q := by
  simp only [State.readOutPort, State.writeOutPort_outPort, Cells.get_set, BitVec.toNat_inj]

/-- Settles O58: without a hook's action A meets the port's entry; a hook's writes to IN_PORT commute with moving PC. -/
theorem inputAndOutput : Obligations.InputAndOutput := by
  intro p s
  refine ⟨rfl, rfl, exec_inp p s, fun v => ?answer, _, exec_out p s, rfl, fun q => s.readOutPort_writeOutPort p q s.a,
    fun writes => ?hook⟩
  case answer =>
    have hread : (s.writeInPort p v).readInPort p = v := by simp [State.readInPort]
    rw [State.inputWith, hread]; rfl
  case hook =>
    exact (List.foldl_hom (State.advance · 2) fun _ _ => rfl).symm

end Sys2Proof.Machine
end
